-- ==== Sys2Proof/Word.lean ====
section
/-! DEFINITION. The word types of the 3160 (R16, R17, R18) and the numbering of its tables. -/

namespace Sys2Proof

/-- A byte of a maintenance message (R17) or of a handset message (R18). -/
abbrev Byte := BitVec 8

/-- A 4-bit field: line state code, aux nibble, one BCD position, epoch. -/
abbrev Nibble := BitVec 4

/-- A 16-bit word: a slot word (R16), a key word, a block counter. -/
abbrev Word := BitVec 16

/-- A sign-magnitude sample code: bit 7 the sign, bits 6 to 0 the magnitude (00_scope, section 4.4). -/
abbrev Sample := BitVec 8

/-- Six BCD positions, position 1 in the four highest bits (R52). -/
abbrev ExtensionNumber := BitVec 24

/-- A slot that has a slot record: the value `i` is slot number `i + 1`, 1 to 127 (R20). -/
abbrev SlotId := Fin 127

/-- A context index, 0 to 63 (R102). -/
abbrev ContextId := Fin 64

/-- A directory index, 0 to 511 (R51). -/
abbrev RecordId := Fin 512

/-- A class number, 0 to 7 (R56). -/
abbrev ClassId := Fin 8

/-- A site index, 0 to 31 (R99). -/
abbrev SiteId := Fin 32

/-- A tone descriptor index, 0 to 7 (R154). -/
abbrev ToneId := Fin 8

/-- The 128 slot words of one frame of one highway, slot 0 first (00_scope, section 1.1). -/
abbrev SlotWords := Vector Word 128

/-- The slot number that messages and events carry, 1 to 127. -/
def SlotId.number (i : SlotId) : Nat := i.val + 1

/-- The idle word, 0x0000 (R2). -/
def idleWord : Word := 0

/-- A frame of idle words (R9). -/
def idleWords : SlotWords := Vector.replicate 128 idleWord

/-- The slot word of slot `i` in a frame of a highway. -/
def SlotWords.wordOf (ws : SlotWords) (i : SlotId) : Word := ws[i.val + 1]

end Sys2Proof
end

