-- ==== Sys2Proof/Syntax.lean ====
section
/-! DEFINITION. The commands of the 3160: one constructor for each row of spec/opcode_table.json. An operand
names the slot, context or message the step concerns. A maintenance request carries its body as bytes, so that
every body the controller can send, of the right size or not, is an operand (R179). -/

namespace Sys2Proof

/-- Which of a context's two slots a clear guard comparison is made with (R30). -/
inductive GuardSide where
  | extension
  | tie
  deriving DecidableEq, Repr

/-- What a frame pulse of the exchange side brings: the words received on the exchange side, and whether a maintenance
idle word of this frame is formed after the frame's posts and stores, or before them (R176). -/
structure ExchangePulse where
  words : SlotWords
  idleWordLast : Bool
  deriving DecidableEq, Repr

/-- The commands: pin events, frame events, expiries and completions, handset messages, maintenance requests. -/
inductive Instr where
  /-- POWER_ON (R185). -/
  | powerOn
  /-- RESET_PIN (R185): the input held low and released. -/
  | resetPin
  /-- FRAME_PULSE_STOP (R1). -/
  | framePulseStop
  /-- EXCHANGE_FRAME (R1, R2): the pulse that begins a frame, with what it brings. -/
  | exchangeFrame (pulse : ExchangePulse)
  /-- LINE_PULSE_FRAME (R5): the frame held one pulse, completing `first`, or two, completing `second` as well.
  `judgedFirst` lists the contexts whose markers are taken before a slip of this frame (R153). -/
  | linePulseFrame (first : SlotWords) (second : Option SlotWords) (judgedFirst : List ContextId)
  /-- NO_PULSE_FRAME (R6, R7): the frame held no line-side pulse; `judgedFirst` as for a pulse frame. -/
  | noPulseFrame (judgedFirst : List ContextId)
  /-- ENTRY_TO_LOCKED (R6, R15). -/
  | entryToLocked
  /-- ENTRY_TO_LOST (R10). -/
  | entryToLost
  /-- LOSS_HOLD_EXPIRY (R11). -/
  | lossHoldExpiry
  /-- FILTERED_CODE_CHANGE (R22). -/
  | filteredCodeChange (slot : SlotId)
  /-- CLEAR_GUARD_EXPIRY (R30), by the comparison with the given slot of the context. -/
  | clearGuardExpiry (context : ContextId) (side : GuardSide)
  /-- EXPIRING_IDLE_SIGN_OFF (R32). -/
  | expiringIdleSignOff (slot : SlotId)
  /-- SIGN_ON (R64): a complete SIGN-ON message with its number and serial. -/
  | signOn (slot : SlotId) (number : ExtensionNumber) (serial : BitVec 48)
  /-- RESPONSE (R68): a complete RESPONSE message with its four bytes, high byte first. -/
  | response (slot : SlotId) (answer : BitVec 32)
  /-- SIGN_OFF (R69). -/
  | signOff (slot : SlotId)
  /-- STATUS_QUERY (R45). -/
  | statusQuery (slot : SlotId)
  /-- GARBLED_MESSAGE (R40, R41, R43). -/
  | garbledMessage (slot : SlotId)
  /-- UNKNOWN_HANDSET_MESSAGE (R43), with its type byte. -/
  | unknownHandsetMessage (slot : SlotId) (type : Byte)
  /-- HANDSET_MESSAGE_START (R49). -/
  | handsetMessageStart (slot : SlotId)
  /-- HANDSET_MESSAGE_SENT (R49). -/
  | handsetMessageSent (slot : SlotId)
  /-- RESPONSE_TIMEOUT (R67). -/
  | responseTimeout (slot : SlotId)
  /-- REFUSAL_HOLD_END (R73). -/
  | refusalHoldEnd (slot : SlotId)
  /-- ENGINE_SELECT (R90). -/
  | engineSelect
  /-- VERIFY_DELIVERY (R70). -/
  | verifyDelivery
  /-- TX_KEY_DELIVERY (R122). -/
  | txKeyDelivery
  /-- RX_KEY_DELIVERY (R147). -/
  | rxKeyDelivery
  /-- MINUTE_BOUNDARY (R167). -/
  | minuteBoundary
  /-- BLOCK_BOUNDARY (R121). -/
  | blockBoundary (context : ContextId)
  /-- REKEY_INTERVAL_EXPIRY (R115). -/
  | rekeyIntervalExpiry (context : ContextId)
  /-- CONTEXT_FREE (R109, R110): the last frame of the second CLEAR block. -/
  | contextFree (context : ContextId)
  /-- HUNT_MARKER_FOUND (R143, R144). -/
  | huntMarkerFound (context : ContextId)
  /-- MARKER_FRAME (R148). -/
  | markerFrame (context : ContextId)
  /-- BLOCK_RESTORE (R152). -/
  | blockRestore (context : ContextId)
  /-- HUNT_TIMEOUT (R142). -/
  | huntTimeout (context : ContextId)
  /-- BURST_END (R157). -/
  | burstEnd (slot : SlotId)
  /-- GAP_END (R157). -/
  | gapEnd (slot : SlotId)
  /-- REJECTED_MESSAGE (R178). -/
  | rejectedMessage
  /-- UNKNOWN_REQUEST (R179): a complete request whose code names no request. -/
  | unknownRequest (code : Byte) (body : List Byte)
  /-- RESPONSE_START (R179). -/
  | responseStart
  /-- RESPONSE_END (R180). -/
  | responseEnd
  /-- GET_STATUS, code 0x01 (R181). -/
  | getStatus (body : List Byte)
  /-- SET_TIME, code 0x02 (R168). -/
  | setTime (body : List Byte)
  /-- SET_TIMERS, code 0x03 (R182). -/
  | setTimers (body : List Byte)
  /-- RESET, code 0x04 (R183). -/
  | reset (body : List Byte)
  /-- ERASE_SECRETS, code 0x05 (R184). -/
  | eraseSecrets (body : List Byte)
  /-- SET_SLOT, code 0x10 (R33). -/
  | setSlot (body : List Byte)
  /-- READ_SLOT, code 0x11 (R35). -/
  | readSlot (body : List Byte)
  /-- FORCE_SIGN_OFF, code 0x12 (R79). -/
  | forceSignOff (body : List Byte)
  /-- LOAD_ENTRY, code 0x20 (R53). -/
  | loadEntry (body : List Byte)
  /-- DELETE_ENTRY, code 0x21 (R54). -/
  | deleteEntry (body : List Byte)
  /-- READ_DIRECTORY, code 0x22 (R55). -/
  | readDirectory (body : List Byte)
  /-- SET_STANDING, code 0x23 (R80). -/
  | setStanding (body : List Byte)
  /-- LOAD_CLASS, code 0x24 (R57). -/
  | loadClass (body : List Byte)
  /-- LOAD_VISITOR_RULE, code 0x25 (R62). -/
  | loadVisitorRule (body : List Byte)
  /-- SET_VISITOR_MASKS, code 0x26 (R62). -/
  | setVisitorMasks (body : List Byte)
  /-- SET_ENGINE_LEVELS, code 0x30 (R94). -/
  | setEngineLevels (body : List Byte)
  /-- LOAD_SITE, code 0x40 (R100). -/
  | loadSite (body : List Byte)
  /-- CLEAR_SITE, code 0x41 (R101). -/
  | clearSite (body : List Byte)
  /-- OPEN_PRIVACY, code 0x42 (R104). -/
  | openPrivacy (body : List Byte)
  /-- CLOSE_PRIVACY, code 0x43 (R112). -/
  | closePrivacy (body : List Byte)
  /-- REKEY, code 0x44 (R116). -/
  | rekey (body : List Byte)
  /-- READ_CONTEXT, code 0x45 (R118). -/
  | readContext (body : List Byte)
  /-- LOAD_TONE, code 0x50 (R155). -/
  | loadTone (body : List Byte)
  /-- SET_TONE_FUNCTIONS, code 0x51 (R163). -/
  | setToneFunctions (body : List Byte)
  /-- PLAY_TONE, code 0x52 (R161). -/
  | playTone (body : List Byte)
  /-- STOP_TONE, code 0x53 (R162). -/
  | stopTone (body : List Byte)
  /-- SET_EVENT_MASK, code 0x60 (R172). -/
  | setEventMask (body : List Byte)
  /-- READ_EVENTS, code 0x61 (R173). -/
  | readEvents (body : List Byte)
  /-- READ_RECORDS, code 0x62 (R175). -/
  | readRecords (body : List Byte)
  deriving DecidableEq, Repr

end Sys2Proof
end

