-- ==== Sys2Proof/Decode.lean ====
section
/-! DEFINITION. The command a word spells by the bits of spec/opcode_table.json. The table gives no row any bits,
so no word spells a command; requests and messages reach the part as bytes and nibbles of slot words, which the
assemblers of Machine/Port.lean and Machine/Handset.lean read. -/

namespace Sys2Proof

/-- No row of the table gives bits, so every word is refused (DEDUCED, log entry 16). -/
def decodeTableWord (_nbits _w : Nat) : Option Instr := none

end Sys2Proof
end

