-- ==== Sys2Proof/Config.lean ====
section
/-! DEFINITION. The fixed numbers of the 3160: identity, table and queue sizes, ranges and defaults, each with
the rule that gives it. The spec leaves no value of this part to an implementation, so no constant here is free. -/

namespace Sys2Proof.Config

/-- Family code of GET-STATUS (R181). -/
def familyCode : Word := 0x3160
/-- Revision of GET-STATUS (R181). -/
def revision : Byte := 1
/-- Frames in one second (00_scope, section 4.1). -/
def framesPerSecond : Nat := 8000
/-- Frames in one minute (00_scope, section 4.1). -/
def framesPerMinute : Nat := 480000
/-- Good count at which the line side locks (R6). -/
def lockCount : Nat := 64
/-- Bound of the miss run (R4). -/
def missRunMax : Nat := 16
/-- Bound of every 16-bit saturating count (R4, R24, R102, R174, R178). -/
def count16Max : Nat := 65535
/-- Default loss window W (R4). -/
def lossWindowDefault : Nat := 4
/-- Default loss hold H (R4). -/
def lossHoldDefault : Nat := 16000
/-- Default filter length N (R21). -/
def filterLengthDefault : Nat := 8
/-- Largest filter length N (R20). -/
def filterLengthMax : Nat := 15
/-- Idle duration at which an EXPIRING slot is signed off (R32). -/
def expiringIdleFrames : Nat := 8000
/-- Default response timeout (R81). -/
def responseTimeoutDefault : Nat := 3200
/-- Default refusal hold (R81). -/
def refusalHoldDefault : Nat := 16000
/-- Messages a transmit queue holds (R47). -/
def txQueueSize : Nat := 4
/-- Bound of the garbled count (R38). -/
def garbledMax : Nat := 255
/-- Longest handset message length field (R18). -/
def handsetLengthMax : Nat := 24
/-- Longest maintenance length field (R17). -/
def requestLengthMax : Nat := 1024
/-- Visitors admitted at once (R61). -/
def visitorMax : Nat := 32
/-- What a failure adds to the fault counter (R76). -/
def faultStep : Nat := 8
/-- Top of the fault counter (R76). -/
def faultMax : Nat := 255
/-- Fault counter from which a record is SUSPECT (R76). -/
def suspectAt : Nat := 128
/-- Fault counter a SUSPECT record's success leaves (R77). -/
def restoredFaults : Nat := 127
/-- The constant of a nonce draw (R96). -/
def nonceStep : BitVec 24 := 0x5B2C4F
/-- Partners of one extension (R28). -/
def partnerMax : Nat := 4
/-- Events the queue holds (R171). -/
def eventQueueSize : Nat := 32
/-- Call records the queue holds (R174). -/
def recordQueueSize : Nat := 64
/-- Requests the holding buffer holds (R180). -/
def holdingSize : Nat := 2
/-- Bound of the elapsed-frame count (R102). -/
def elapsedMax : Nat := 4294967295
/-- Bound of the rekey elapsed counter (R102). -/
def rekeyElapsedMax : Nat := 691200000
/-- Block counter that triggers a rekey (R115). -/
def rekeyCounter : Word := 65024
/-- Last block counter at which announcing may begin (R131). -/
def announceLast : Word := 65532
/-- Misses that end KEYWAIT (R146). -/
def keywaitMisses : Nat := 2
/-- Pairs in a full window (R137). -/
def windowSize : Nat := 16
/-- Offset of the marker frame in a received block (R138). -/
def markerOffset : Nat := 15

end Sys2Proof.Config
end

