-- ==== Sys2Proof/Machine/State.lean ====
section
/-! DEFINITION. The state of the 3160, block by block as 00_scope section 2 lists it, its value after power-on,
and the outcomes of a step. Fields marked "model's own" record what has fallen due in the present frame and has
not been taken yet (log entry 1), or latch what the frame's words are formed from (log entry 3). -/

namespace Sys2Proof.Machine

/-! ### Highway Interface -/

/-- Line-side timing state, coded LOST 0, UNSTABLE 1, LOCKED 2 (R4, R181). -/
inductive Timing where
  | lost
  | unstable
  | locked
  deriving DecidableEq, Repr

/-- A running timer. `due` (model's own): its count reached its limit at this frame's advance. -/
structure Timer where
  elapsed : Nat
  due : Bool
  deriving DecidableEq, Repr

/-- The Highway Interface (R4, R13, R16). -/
structure Highway where
  timing : Timing
  goodCount : Nat
  missRun : Nat
  lossHold : Option Timer
  depth : Nat
  slipCount : Nat
  lossWindow : Nat
  lossHoldLimit : Nat
  /-- The line-side frames the store holds and has not delivered, oldest first (R13). -/
  store : List SlotWords
  /-- The line-side frame last delivered, which a repeat slip delivers again (R13). -/
  delivered : SlotWords
  /-- The line-side frame last completed, which a realignment keeps (R15). -/
  latest : SlotWords
  /-- The receive line of the exchange side in the present frame (R2). -/
  received : SlotWords
  /-- The words with which the line-to-exchange path begins in the present frame (R9, R26). -/
  lineWords : SlotWords
  /-- The transmit line of the exchange side in the last complete frame (R2). -/
  exchangeOut : SlotWords
  /-- The transmit line of the line side in the last complete frame (R3). -/
  lineOut : SlotWords
  /-- Model's own: the present frame's pulse count has been taken (R5). -/
  observed : Bool
  /-- Model's own: the good count reached 64 in the present frame (R6). -/
  lockDue : Bool
  /-- Model's own: the miss run reached W in the present frame (R6, R7). -/
  lossDue : Bool
  /-- Model's own: the present frame is a frame of entry to LOCKED (R15). -/
  entered : Bool
  deriving DecidableEq, Repr

/-! ### Slot records, handset units, tone players -/

/-- Slot kind, coded 0 to 3 (R20). -/
inductive Kind where
  | unused
  | extension
  | tie
  | publicTrunk
  deriving DecidableEq, Repr

/-- Admission state, coded 0 to 5 (R20). -/
inductive Admission where
  | locked
  | challenged
  | verifying
  | admitted
  | expiring
  | hold
  deriving DecidableEq, Repr

/-- Receive assembler (R39 to R41). `content` holds the type byte and the body taken so far. -/
inductive Assembler where
  | hunt (previous : Option Nibble)
  | length (first : Option Nibble)
  | body (length : Nat) (content : List Byte) (first : Option Nibble) (sum : Byte)
  | check (content : List Byte) (sum : Byte) (first : Option Nibble)
  deriving DecidableEq, Repr

/-- A complete handset message: type and body (R47). -/
structure HandsetMessage where
  type : Byte
  body : List Byte
  deriving DecidableEq, Repr

/-- Handset transmitter (R47). `sending` holds the position of the next nibble. -/
inductive Transmitter where
  | idle
  | sending (position : Nat)
  | gap
  deriving DecidableEq, Repr

/-- The fields of a loaded tone descriptor (R154). -/
structure ToneDescriptor where
  halfPeriod : Nat
  magnitude : Nat
  decrement : Nat
  step : Nat
  periods : Nat
  gap : Nat
  bursts : Nat
  priority : Nat
  deriving DecidableEq, Repr

/-- Phase of a playing tone (R158). `burst given` has given that many samples, so its next sample is number
`given`; `gap given` has given that many gap frames. -/
inductive TonePhase where
  | burst (given : Nat)
  | gap (given : Nat)
  deriving DecidableEq, Repr

/-- A current tone: a copy of a descriptor's fields, its index and its position (R158). -/
structure Tone where
  descriptor : ToneDescriptor
  index : ToneId
  /-- Number of bursts begun; kept at 1 when the burst count is 0. -/
  begun : Nat
  phase : TonePhase
  deriving DecidableEq, Repr

/-- A pending tone: descriptor index and the priority held when the request was made (R158). -/
structure PendingTone where
  index : ToneId
  priority : Nat
  deriving DecidableEq, Repr

/-- Model's own: how a slot's words are gated in the present frame, fixed at its start (R25 to R27). -/
inductive Gate where
  | unused
  | closed
  | passing
  | through
  | bound (context : ContextId)
  deriving DecidableEq, Repr

/-- One slot record (R20, R63), its handset message unit (R38) and its tone player (R158). -/
structure Slot where
  kind : Kind
  filterLength : Nat
  filtered : Nibble
  candidate : Nibble
  persistence : Nat
  idle : Nat
  admission : Admission
  boundIndex : Option RecordId
  visitor : Bool
  number : Option ExtensionNumber
  admissionClass : Option ClassId
  challenge : Option (BitVec 32)
  responseTimer : Option Timer
  refusalHold : Option Timer
  boundContext : Option ContextId
  partners : List ContextId
  assembler : Assembler
  garbled : Nat
  txQueue : List HandsetMessage
  transmitter : Transmitter
  tone : Option Tone
  pendingTone : Option PendingTone
  /-- Model's own: the persistence count reached 8N in the present frame (R22). -/
  changeDue : Bool
  /-- Model's own: a SET-SLOT has set the filter afresh in the present frame (R34, R36). -/
  filterFresh : Bool
  /-- Model's own: the transmitter was IDLE with a queue not empty at the frame's start (R49). -/
  startDue : Bool
  /-- Model's own: the gating of the present frame (R25). -/
  gate : Gate
  /-- Model's own: the transmit nibble given in the present frame (R49). -/
  auxOut : Nibble
  /-- Model's own: the player's code given in the present frame (R157). -/
  toneOut : Option Sample
  deriving DecidableEq, Repr

/-! ### Directory, classes, visitor rules -/

/-- A clock reading or stamp (R166, R167). -/
structure Reading where
  day : Nat
  hour : Nat
  minute : Nat
  second : Nat
  frame : Nat
  deriving DecidableEq, Repr

/-- Four 16-bit key words (R83). -/
structure Key where
  k0 : Word
  k1 : Word
  k2 : Word
  k3 : Word
  deriving DecidableEq, Repr

/-- Standing, coded 0 to 2 (R51). -/
inductive Standing where
  | good
  | suspect
  | barred
  deriving DecidableEq, Repr

/-- An in-use directory record (R51). -/
structure Record where
  number : ExtensionNumber
  serial : BitVec 48
  secret : Key
  cls : ClassId
  faults : Nat
  standing : Standing
  admittedSlot : Option SlotId
  lastSignOn : Option Reading
  pendingSlot : Option SlotId
  deriving DecidableEq, Repr

/-- A class record (R56). -/
structure ClassRecord where
  privacy : Bool
  bandStart : Nat
  bandEnd : Nat
  inBand : Bool
  deriving DecidableEq, Repr

/-- Mask select of a visitor rule: A 0, B 1 (R60). -/
inductive MaskSelect where
  | a
  | b
  deriving DecidableEq, Repr

/-- A visitor rule (R60). -/
structure VisitorRule where
  inUse : Bool
  pattern : ExtensionNumber
  mask : MaskSelect
  cls : ClassId
  deriving DecidableEq, Repr

/-- Visitor rules, care masks and visitor count (R60, R61). -/
structure Visitors where
  rules : Vector VisitorRule 8
  maskA : BitVec 6
  maskB : BitVec 6
  count : Nat
  deriving DecidableEq, Repr

/-- The sign-on timer limits (R81). -/
structure Timers where
  responseTimeout : Nat
  refusalHold : Nat
  deriving DecidableEq, Repr

/-! ### Transform Engine -/

/-- Engine phase (R86). -/
inductive Phase where
  | idle
  | load
  | round
  | rest
  deriving DecidableEq, Repr

/-- What a request asks for: its kind, its requester and its material (R89). -/
inductive Job where
  | verify (slot : SlotId) (record : RecordId) (answer : BitVec 32)
  | txKey (context : ContextId) (site : SiteId) (nonce : BitVec 24) (epoch : Nibble)
  | rxKey (context : ContextId) (site : SiteId) (nonce : BitVec 24) (epoch : Nibble)
  deriving DecidableEq, Repr

/-- A request on the list, in posting order (R89). `eligible`: posted before the present frame (R90). -/
structure Request where
  job : Job
  inFlight : Bool
  eligible : Bool
  deriving DecidableEq, Repr

/-- The operation in flight (R86, R88). `word2` is the captured second input of a DERIVE; `first` the output of
its run 1; `round` the next round; `complete` (model's own) that the last round ran in the present frame. -/
structure Operation where
  job : Job
  key : Key
  word2 : Option (BitVec 32)
  first : Option (BitVec 32)
  a : Word
  b : Word
  round : Nat
  complete : Bool
  deriving DecidableEq, Repr

/-- The Transform Engine (R86). `toRest` (model's own): the engine enters REST for the next frame (R87). -/
structure Engine where
  phase : Phase
  toRest : Bool
  operation : Option Operation
  requests : List Request
  rxLevel : Nat
  txLevel : Nat
  verifyLevel : Nat
  nonce : BitVec 24
  deriving DecidableEq, Repr

/-! ### Sites and contexts -/

/-- A VALID site record (R99). -/
structure Site where
  identifier : Word
  key : Key
  deriving DecidableEq, Repr

/-- The profile of a context (R103). -/
structure Profile where
  segment : Nat
  masking : Bool
  presync : Nat
  flywheel : Nat
  huntLimit : Nat
  clearGuard : Nat
  rekeyInterval : Nat
  deriving DecidableEq, Repr

/-- State of a context that is not FREE, coded OPENING 1, OPEN 2, CLOSING 3 (R102). -/
inductive ContextPhase where
  | opening
  | opened
  | closing
  deriving DecidableEq, Repr

/-- Closing cause, coded 0x01 to 0x0A (R111). -/
inductive CloseCause where
  | management
  | extensionIdle
  | tieIdle
  | signOff
  | farClear
  | noSync
  | exhausted
  | lineLoss
  | reset
  | erased
  deriving DecidableEq, Repr

/-- The words of a call key (R85). -/
structure KeyWords where
  kp : Word
  km : Word
  kx : Word
  deriving DecidableEq, Repr

/-- A call key with the nonce and epoch that name it (R85, R120). -/
structure CallKey where
  nonce : BitVec 24
  epoch : Nibble
  words : KeyWords
  deriving DecidableEq, Repr

/-- Scrambler state, coded 0 to 5 (R120). -/
inductive ScramblerState where
  | keying
  | running
  | rekeying
  | announcing
  | clearing
  | stopped
  deriving DecidableEq, Repr

/-- A scrambler's next key: AWAITED while `words` is absent, then DELIVERED (R120). `fresh` (model's own): it was
delivered in the present frame, so a boundary of this frame does not act on it (R122). -/
structure NextKey where
  nonce : BitVec 24
  epoch : Nibble
  words : Option KeyWords
  fresh : Bool
  deriving DecidableEq, Repr

/-- Marker kind, coded DATA 1, ANNOUNCE 2, CLEAR 3 (R19). -/
inductive MarkerKind where
  | data
  | announce
  | clear
  deriving DecidableEq, Repr

/-- The fields of a marker (R19). -/
structure Marker where
  kind : MarkerKind
  epoch : Nibble
  counter : Word
  nonce : BitVec 24
  countdown : Nibble
  deriving DecidableEq, Repr

/-- What a scrambler sends in a block period: an idle period, or a block with its marker (R120). -/
inductive Emission where
  | idle
  | block (marker : Marker) (codes : List Sample)
  deriving DecidableEq, Repr

/-- The scrambler sub-record (R120). `collected` is the block of the period just ended, held for its boundary. -/
structure Scrambler where
  state : ScramblerState
  current : Option CallKey
  next : Option NextKey
  last : Option Word
  countdown : Option Nat
  clearCount : Nat
  collection : List Sample
  collected : List Sample
  emission : Emission
  deriving DecidableEq, Repr

/-- Descrambler state, coded 0 to 4 (R137). -/
inductive DescramblerState where
  | hunt
  | keywait
  | presync
  | sync
  | flywheel
  deriving DecidableEq, Repr

/-- A descrambler's pending key: announced while its countdown is present, else sought (R137). -/
structure PendingKey where
  nonce : BitVec 24
  epoch : Nibble
  countdown : Option Nat
  words : Option KeyWords
  deriving DecidableEq, Repr

/-- An accepted block: the key and counter under which it will be restored (R152). -/
structure Accepted where
  key : CallKey
  counter : Word
  deriving DecidableEq, Repr

/-- The descrambler sub-record (R137). `offset` is the phase; `hunt` the running hunt timer. -/
structure Descrambler where
  state : DescramblerState
  window : List (Nibble × Sample)
  offset : Option Nat
  buffer : List Sample
  accepted : Option Accepted
  restored : Option (List Sample)
  expected : Option Word
  switchDue : Bool
  held : Option CallKey
  pending : Option PendingKey
  sighted : Bool
  good : Nat
  miss : Nat
  hunt : Option Nat
  /-- The block restored in the last frame of its reception, which is sent from the next frame (R152). -/
  upcoming : Option (List Sample)
  /-- Model's own: the present frame is a marker frame not yet judged (R138). -/
  markerDue : Bool
  /-- Model's own: the present frame is the last of a received block, not yet restored (R152). -/
  restoreDue : Bool
  deriving DecidableEq, Repr

/-- A context that is not FREE (R102). -/
structure Context where
  phase : ContextPhase
  tie : SlotId
  ext : SlotId
  index : RecordId
  number : ExtensionNumber
  site : SiteId
  profile : Profile
  openStamp : Reading
  elapsed : Nat
  rekeyElapsed : Nat
  rekeys : Nat
  syncLosses : Nat
  reached : Bool
  gone : Bool
  cause : Option CloseCause
  scrambler : Scrambler
  descrambler : Descrambler
  /-- The present frame's distance from the first frame of its block period (R121). -/
  offset : Nat
  /-- Model's own: the present frame is a block boundary not yet acted on (R121). -/
  boundaryDue : Bool
  deriving DecidableEq, Repr

/-! ### Tone Unit, Clock and Records Unit, Maintenance Port -/

/-- The tone function table (R163). -/
structure ToneFunctions where
  admission : Option ToneId
  refused : Option ToneId
  expiring : Option ToneId
  privacyOn : Option ToneId
  privacyLost : Option ToneId
  privacyOff : Option ToneId
  deriving DecidableEq, Repr

/-- The Tone Unit's tables (R154, R163); its players stand with their slots. -/
structure Tones where
  descriptors : Vector (Option ToneDescriptor) 8
  functions : ToneFunctions
  deriving DecidableEq, Repr

/-- The exchange-side frame pulse: not yet seen since power-on or the reset pin, running, or stopped (R1, R166). Power-on
and the reset pin lead to `awaiting` from `stopped` too (DESIGN CHOICE, log entry 5). -/
inductive Timebase where
  | awaiting
  | running
  | stopped
  deriving DecidableEq, Repr

/-- The time-of-day clock (R166). `minuteDue` (model's own): this frame is a minute boundary not yet taken. -/
structure Clock where
  reading : Reading
  timebase : Timebase
  minuteDue : Bool
  deriving DecidableEq, Repr

/-- Event kind, coded 0x01 to 0x0B (R170). -/
inductive EventKind where
  | signedOn
  | signedOff
  | signOnRefused
  | standingChanged
  | privacyUp
  | privacyLost
  | contextClosed
  | lineState
  | slip
  | bandChange
  | txOverflow
  deriving DecidableEq, Repr

/-- An event record (R170). -/
structure Event where
  kind : EventKind
  stamp : Reading
  slot : Option SlotId
  context : Option ContextId
  index : Option RecordId
  detail : Byte
  deriving DecidableEq, Repr

/-- The event queue with its mask and overflow mark (R171); bit k − 1 of the mask enables code k (R172). -/
structure Events where
  queue : List Event
  mask : BitVec 11
  overflow : Bool
  deriving DecidableEq, Repr

/-- A call record (R110, R175). -/
structure CallRecord where
  tie : SlotId
  ext : SlotId
  index : RecordId
  number : ExtensionNumber
  site : SiteId
  openStamp : Reading
  closeStamp : Reading
  duration : Nat
  cause : Option CloseCause
  rekeys : Nat
  syncLosses : Nat
  reached : Bool
  deriving DecidableEq, Repr

/-- The call record queue and the discarded-record count (R174). -/
structure Records where
  queue : List CallRecord
  discarded : Nat
  deriving DecidableEq, Repr

/-- Request assembler (R178). `content` holds the code and the body taken so far. -/
inductive PortAssembler where
  | hunt (previous : Option Byte)
  | length (first : Option Byte)
  | body (length : Nat) (content : List Byte) (sum : Word)
  | check (content : List Byte) (sum : Word) (first : Option Byte)
  deriving DecidableEq, Repr

/-- A held request: its code, and the status and body fixed when it acted (R179, R180). -/
structure Held where
  code : Byte
  status : Byte
  body : List Byte
  deriving DecidableEq, Repr

/-- Response transmitter (R177). `sending` holds the bytes not yet given. -/
inductive PortTransmitter where
  | idle
  | sending (rest : List Byte)
  deriving DecidableEq, Repr

/-- The Maintenance Port (R177 to R180). -/
structure Port where
  assembler : PortAssembler
  holding : List Held
  transmitter : PortTransmitter
  rejected : Nat
  overrun : Bool
  /-- The word given in upstream slot 0 in the present frame (R177). -/
  word : Word
  /-- Model's own: the transmitter was IDLE with a request held at the frame's start (R180). -/
  startDue : Bool
  /-- Model's own: the present frame's maintenance idle word is still to be formed, after its posts and stores (R176). -/
  idleWordDue : Bool
  deriving DecidableEq, Repr

/-! ### The machine -/

/-- The state of the 3160 and the queue of commands that wait for it, first in first out (one sender, log entry 19). -/
structure State where
  highway : Highway
  slots : Vector Slot 127
  directory : Vector (Option Record) 512
  classes : Vector ClassRecord 8
  visitors : Visitors
  timers : Timers
  engine : Engine
  sites : Vector (Option Site) 32
  contexts : Vector (Option Context) 64
  tones : Tones
  clock : Clock
  events : Events
  records : Records
  port : Port
  pending : List Instr
  deriving DecidableEq, Repr

/-- The spec names no cause that stops the part: every command of every state answers a next state. -/
inductive Fault where
  deriving DecidableEq, Repr

/-- Refusals. -/
inductive Refusal where
  /-- Raised by an arm of `exec` whose command has no meaning yet; no arm does so. Safe. -/
  | notModelled (mnemonic : String)
  deriving DecidableEq, Repr

/-! ### Power-on values -/

/-- A slot record after power-on (R21, R38, R158). -/
def Slot.initial : Slot where
  kind := .unused
  filterLength := Config.filterLengthDefault
  filtered := 0
  candidate := 0
  persistence := 0
  idle := 0
  admission := .locked
  boundIndex := none
  visitor := false
  number := none
  admissionClass := none
  challenge := none
  responseTimer := none
  refusalHold := none
  boundContext := none
  partners := []
  assembler := .hunt none
  garbled := 0
  txQueue := []
  transmitter := .idle
  tone := none
  pendingTone := none
  changeDue := false
  filterFresh := false
  startDue := false
  gate := .unused
  auxOut := 0
  toneOut := none

/-- The Highway Interface after power-on (R4). DESIGN CHOICE (log entry 15): the spec gives no contents for the store,
the frames held beside it and the last words sent, which are empty and idle here. -/
def Highway.initial : Highway where
  timing := .lost
  goodCount := 0
  missRun := 0
  lossHold := none
  depth := 1
  slipCount := 0
  lossWindow := Config.lossWindowDefault
  lossHoldLimit := Config.lossHoldDefault
  store := []
  delivered := idleWords
  latest := idleWords
  received := idleWords
  lineWords := idleWords
  exchangeOut := idleWords
  lineOut := idleWords
  observed := false
  lockDue := false
  lossDue := false
  entered := false

/-- A class record after power-on (R56). -/
def ClassRecord.initial : ClassRecord where
  privacy := false
  bandStart := 0
  bandEnd := 0
  inBand := true

/-- A visitor rule after power-on (R60). -/
def VisitorRule.initial : VisitorRule where
  inUse := false
  pattern := 0xFFFFFF
  mask := .a
  cls := 0

/-- The Transform Engine after power-on (R86). -/
def Engine.initial : Engine where
  phase := .idle
  toRest := false
  operation := none
  requests := []
  rxLevel := 0
  txLevel := 1
  verifyLevel := 2
  nonce := 0

/-- The reading of the first frame (R166). -/
def Reading.zero : Reading where
  day := 0
  hour := 0
  minute := 0
  second := 0
  frame := 0

/-- The tone function table after power-on (R163). -/
def ToneFunctions.initial : ToneFunctions where
  admission := none
  refused := none
  expiring := none
  privacyOn := none
  privacyLost := none
  privacyOff := none

/-- The Maintenance Port after power-on (R185). -/
def Port.initial : Port where
  assembler := .hunt none
  holding := []
  transmitter := .idle
  rejected := 0
  overrun := false
  word := idleWord
  startDue := false
  idleWordDue := false

/-- The part after power-on and after the reset pin, before its first frame (11_maintenance_channel, section 11.7).
DESIGN CHOICE (log entries 5 and 15): a frame pulse that has not been seen yet, and idle words on the lines. -/
def State.reset : State where
  highway := Highway.initial
  slots := Vector.replicate 127 Slot.initial
  directory := Vector.replicate 512 none
  classes := Vector.replicate 8 ClassRecord.initial
  visitors :=
    { rules := Vector.replicate 8 VisitorRule.initial, maskA := 0, maskB := 0, count := 0 }
  timers :=
    { responseTimeout := Config.responseTimeoutDefault, refusalHold := Config.refusalHoldDefault }
  engine := Engine.initial
  sites := Vector.replicate 32 none
  contexts := Vector.replicate 64 none
  tones := { descriptors := Vector.replicate 8 none, functions := ToneFunctions.initial }
  clock := { reading := Reading.zero, timebase := .awaiting, minuteDue := false }
  events := { queue := [], mask := BitVec.allOnes 11, overflow := false }
  records := { queue := [], discarded := 0 }
  port := Port.initial
  pending := []

end Sys2Proof.Machine
end

