-- ==== Sys2Proof/Machine/Operands.lean ====
section
/-! DEFINITION. How the operands and fields of messages are read and written: bytes high byte first (00_scope
section 4.2), BCD positions, codes of names, clamping, and the walks over a table. -/

namespace Sys2Proof.Machine

/-! ### Tables -/

/-- A table with `f` applied to each entry. -/
def mapTable {α β : Type} {n : Nat} (f : α → β) (t : Vector α n) : Vector β n := ⟨⟨t.toList.map f⟩, by simp⟩

/-- The table whose entry `i` is `f i`. -/
def ofTable {α : Type} {n : Nat} (f : Fin n → α) : Vector α n := ⟨⟨List.ofFn f⟩, by simp⟩

/-- Slots 1 to 127 in ascending order. -/
def slotIds : List SlotId := List.finRange 127

/-- Contexts 0 to 63 in ascending order. -/
def contextIds : List ContextId := List.finRange 64

/-- Directory indices 0 to 511 in ascending order. -/
def recordIds : List RecordId := List.finRange 512

/-- An action taken for each element of a list in turn. -/
def forEach {α : Type} (xs : List α) (f : α → State → State) (s : State) : State := xs.foldl (fun s x => f x s) s

/-! ### Numbers -/

/-- A clamped value: the nearer end of the range when outside it (00_scope, section 4.2). -/
def clamp (low high v : Nat) : Nat := max low (min v high)

/-- A saturating count raised by 1 (00_scope, section 4.2). -/
def raise (bound n : Nat) : Nat := min (n + 1) bound

/-- The element number `n` of a table of `size` elements, if it has one. -/
def indexOf (size n : Nat) : Option (Fin size) := if h : n < size then some ⟨n, h⟩ else none

/-- The slot with slot number `n`, absent for 0 and above 127 (R33). -/
def slotOf (n : Nat) : Option SlotId := if h : 1 ≤ n ∧ n ≤ 127 then some ⟨n - 1, by omega⟩ else none

/-! ### Bytes of a body -/

/-- A byte with the low eight bits of `n`. -/
def byte (n : Nat) : Byte := BitVec.ofNat 8 n

/-- Byte `k` of a body, from 0. -/
def byteAt (body : List Byte) (k : Nat) : Nat := (body.getD k 0).toNat

/-- The 2-byte field at byte `k`, high byte first. -/
def field16 (body : List Byte) (k : Nat) : Nat := byteAt body k * 256 + byteAt body (k + 1)

/-- The 3-byte field at byte `k`, high byte first. -/
def field24 (body : List Byte) (k : Nat) : Nat := field16 body k * 256 + byteAt body (k + 2)

/-- The 6-byte field at byte `k`, high byte first. -/
def field48 (body : List Byte) (k : Nat) : Nat := field24 body k * 16777216 + field24 body (k + 3)

/-- The four key words at byte `k`, `k0` first (R53, R100). -/
def fieldKey (body : List Byte) (k : Nat) : Key where
  k0 := BitVec.ofNat 16 (field16 body k)
  k1 := BitVec.ofNat 16 (field16 body (k + 2))
  k2 := BitVec.ofNat 16 (field16 body (k + 4))
  k3 := BitVec.ofNat 16 (field16 body (k + 6))

/-- `n` as two bytes, high byte first. -/
def bytes16 (n : Nat) : List Byte := [byte (n / 256), byte n]

/-- `n` as three bytes, high byte first. -/
def bytes24 (n : Nat) : List Byte := byte (n / 65536) :: bytes16 n

/-- `n` as four bytes, high byte first. -/
def bytes32 (n : Nat) : List Byte := bytes16 (n / 65536) ++ bytes16 n

/-- `n` as six bytes, high byte first. -/
def bytes48 (n : Nat) : List Byte := bytes24 (n / 16777216) ++ bytes24 n

/-- A one-byte field, all ones when absent (R35). -/
def optional8 (v : Option Nat) : List Byte := [byte (v.getD 0xFF)]

/-- A two-byte field, all ones when absent (R35). -/
def optional16 (v : Option Nat) : List Byte := bytes16 (v.getD 0xFFFF)

/-- A three-byte field, all ones when absent (R35). -/
def optional24 (v : Option Nat) : List Byte := bytes24 (v.getD 0xFFFFFF)

/-- 1 for a set flag, 0 for a clear one. -/
def flagNat (f : Bool) : Nat := if f then 1 else 0

/-- A stamp as 7 bytes (R167). -/
def stampBytes (r : Reading) : List Byte :=
  bytes16 r.day ++ [byte r.hour, byte r.minute, byte r.second] ++ bytes16 r.frame

/-- A stamp as 7 bytes, all 0xFF when absent (R167). -/
def optionalStamp : Option Reading → List Byte
  | some r => stampBytes r
  | none => List.replicate 7 0xFF

/-! ### Extension numbers -/

/-- The six positions, position 1 first (R52). -/
def positions (n : ExtensionNumber) : List Nibble :=
  [n.extractLsb' 20 4, n.extractLsb' 16 4, n.extractLsb' 12 4, n.extractLsb' 8 4, n.extractLsb' 4 4, n.extractLsb' 0 4]

/-- Well-formed: fillers 0xF, then at least one digit, and digits only after the first (R52). -/
def wellFormedNumber (n : ExtensionNumber) : Bool :=
  let digits := (positions n).dropWhile (· == 0xF)
  !digits.isEmpty && digits.all (fun d => decide (d.toNat ≤ 9))

/-- A visitor rule's pattern: no position holds 0xA to 0xE (R62). -/
def legalPattern (n : ExtensionNumber) : Bool :=
  (positions n).all (fun d => decide (d.toNat ≤ 9) || d == 0xF)

/-- The number equals the pattern at every position whose mask bit is 1, bit 5 standing for position 1 (R60). -/
def matchesPattern (mask : BitVec 6) (pattern n : ExtensionNumber) : Bool :=
  ((positions pattern).zip (positions n)).zipIdx.all fun ((p, d), k) => !mask.getLsbD (5 - k) || p == d

/-! ### Codes -/

/-- Slot kind code (R20). -/
def Kind.code : Kind → Nat
  | .unused => 0
  | .extension => 1
  | .tie => 2
  | .publicTrunk => 3

/-- The kind with a code, absent above 3 (R33). -/
def kindOf : Nat → Option Kind
  | 0 => some .unused
  | 1 => some .extension
  | 2 => some .tie
  | 3 => some .publicTrunk
  | _ => none

/-- Admission state code (R20). -/
def Admission.code : Admission → Nat
  | .locked => 0
  | .challenged => 1
  | .verifying => 2
  | .admitted => 3
  | .expiring => 4
  | .hold => 5

/-- Timing state code (R181). -/
def Timing.code : Timing → Nat
  | .lost => 0
  | .unstable => 1
  | .locked => 2

/-- Standing code (R51). -/
def Standing.code : Standing → Nat
  | .good => 0
  | .suspect => 1
  | .barred => 2

/-- Context state code (R102); FREE is 0. -/
def ContextPhase.code : ContextPhase → Nat
  | .opening => 1
  | .opened => 2
  | .closing => 3

/-- Closing cause code (R111). -/
def CloseCause.code : CloseCause → Nat
  | .management => 1
  | .extensionIdle => 2
  | .tieIdle => 3
  | .signOff => 4
  | .farClear => 5
  | .noSync => 6
  | .exhausted => 7
  | .lineLoss => 8
  | .reset => 9
  | .erased => 10

/-- A close with this cause sends no CLEAR blocks and no PRIVACY-OFF (R108, R110). -/
def CloseCause.silent (c : CloseCause) : Bool := c == .lineLoss || c == .reset || c == .erased

/-- A close with this cause is that of a soft reset (R119). -/
def CloseCause.resets (c : CloseCause) : Bool := c == .reset || c == .erased

/-- Scrambler state code (R118). -/
def ScramblerState.code : ScramblerState → Nat
  | .keying => 0
  | .running => 1
  | .rekeying => 2
  | .announcing => 3
  | .clearing => 4
  | .stopped => 5

/-- Descrambler state code (R118). -/
def DescramblerState.code : DescramblerState → Nat
  | .hunt => 0
  | .keywait => 1
  | .presync => 2
  | .sync => 3
  | .flywheel => 4

/-- Event kind code (R170). -/
def EventKind.code : EventKind → Nat
  | .signedOn => 1
  | .signedOff => 2
  | .signOnRefused => 3
  | .standingChanged => 4
  | .privacyUp => 5
  | .privacyLost => 6
  | .contextClosed => 7
  | .lineState => 8
  | .slip => 9
  | .bandChange => 10
  | .txOverflow => 11

/-- Marker kind code (R19). -/
def MarkerKind.code : MarkerKind → Nat
  | .data => 1
  | .announce => 2
  | .clear => 3

/-- Sign-off causes (R75). -/
inductive SignOffCause where
  | handset
  | management
  | moved
  | replaced
  | barred
  | outOfHours
  | lineLoss
  | reset
  | erased
  deriving DecidableEq, Repr

/-- Sign-off cause code (R75). -/
def SignOffCause.code : SignOffCause → Byte
  | .handset => 1
  | .management => 2
  | .moved => 3
  | .replaced => 4
  | .barred => 5
  | .outOfHours => 6
  | .lineLoss => 7
  | .reset => 8
  | .erased => 9

/-- Refusal reasons (R46). -/
inductive Reason where
  | malformed
  | barred
  | wrongHandset
  | outOfHours
  | busy
  | noResponse
  | badResponse
  | unknown
  | visitorsFull
  deriving DecidableEq, Repr

/-- Refusal reason code (R46). -/
def Reason.code : Reason → Byte
  | .malformed => 1
  | .barred => 2
  | .wrongHandset => 3
  | .outOfHours => 4
  | .busy => 5
  | .noResponse => 6
  | .badResponse => 7
  | .unknown => 8
  | .visitorsFull => 9

/-- Notice codes (R46). -/
inductive Notice where
  | privacyOn
  | privacyOff
  | privacyLost
  | expiring
  deriving DecidableEq, Repr

/-- Notice code (R46). -/
def Notice.code : Notice → Byte
  | .privacyOn => 1
  | .privacyOff => 2
  | .privacyLost => 3
  | .expiring => 4

/-- The six tone functions (R163). -/
inductive ToneFunction where
  | admission
  | refused
  | expiring
  | privacyOn
  | privacyLost
  | privacyOff
  deriving DecidableEq, Repr

/-- Outcome of a tone request (R159). -/
inductive ToneOutcome where
  | started
  | waiting
  | replaced
  | dropped
  deriving DecidableEq, Repr

/-- Tone outcome code (R161). -/
def ToneOutcome.code : ToneOutcome → Byte
  | .started => 0
  | .waiting => 1
  | .replaced => 2
  | .dropped => 3

/-- Slips and the realignment (R13, R15). -/
inductive Slip where
  | drop
  | again
  | realign
  deriving DecidableEq, Repr

/-- Detail of a SLIP event (R170). -/
def Slip.code : Slip → Byte
  | .drop => 1
  | .again => 2
  | .realign => 3

/-! ### Slot words -/

/-- The sample code of a slot word (R16). -/
def sampleOf (w : Word) : Sample := w.extractLsb' 8 8

/-- The line state code of a slot word (R16). -/
def lineStateOf (w : Word) : Nibble := w.extractLsb' 4 4

/-- The aux nibble of a slot word (R16). -/
def auxOf (w : Word) : Nibble := w.extractLsb' 0 4

/-- A slot word from its three fields (R16). -/
def slotWord (sample : Sample) (lineState aux : Nibble) : Word := sample ++ lineState ++ aux

/-- The high nibble of a byte, then the low one (R37). -/
def byteNibbles (b : Byte) : List Nibble := [b.extractLsb' 4 4, b.extractLsb' 0 4]

/-- A byte from its two nibbles, the high one first (R37). -/
def nibblesByte (high low : Nibble) : Byte := high ++ low

/-- The sum of bytes modulo 256. -/
def sum8 (bs : List Byte) : Byte := bs.foldl (· + ·) 0

/-- The sum of bytes modulo 65536. -/
def sum16 (bs : List Byte) : Word := bs.foldl (fun t b => t + b.setWidth 16) 0

/-- A handset message on the wire: start, length, type, body, check (R18). -/
def handsetBytes (m : HandsetMessage) : List Byte :=
  let counted := byte (m.body.length + 1) :: m.type :: m.body
  0xA5 :: counted ++ [-(sum8 counted)]

/-- The nibbles of a handset message in the order of transmission (R37). -/
def handsetNibbles (m : HandsetMessage) : List Nibble := (handsetBytes m).flatMap byteNibbles

end Sys2Proof.Machine
end

