-- ==== Sys2Proof/Machine/Flags.lean ====
section
/-! DEFINITION. The flags that the part computes: a class's in-band flag, attention, and the flags of a response. -/

namespace Sys2Proof.Machine

/-- Minute of day of a reading (R56). -/
def minuteOfDay (r : Reading) : Nat := r.hour * 60 + r.minute

/-- The class is in band at minute of day `m` (R56). -/
def inBandAt (bandStart bandEnd m : Nat) : Bool :=
  if bandStart = bandEnd then true
  else if bandStart < bandEnd then decide (bandStart ≤ m ∧ m < bandEnd)
  else decide (bandStart ≤ m ∨ m < bandEnd)

/-- Attention: either queue holds a record (R176). -/
def attention (s : State) : Bool := !s.events.queue.isEmpty || !s.records.queue.isEmpty

/-- The maintenance idle word (R176). -/
def maintenanceIdle (s : State) : Word := if attention s then 1 else 0

/-- The flags of a response formed in this state (R17, R179). -/
def responseFlags (s : State) : Byte :=
  byte (flagNat (!s.events.queue.isEmpty) + 2 * flagNat (!s.records.queue.isEmpty) +
    4 * flagNat s.port.overrun + 8 * flagNat (decide (s.highway.timing ≠ .locked)))

/-- A slot in ADMITTED or EXPIRING (00_scope, section 5, "admitted"). -/
def Slot.isAdmitted (r : Slot) : Bool := r.admission == .admitted || r.admission == .expiring

/-- A slot with a sign-on in progress (R74). -/
def Slot.signingOn (r : Slot) : Bool := r.admission == .challenged || r.admission == .verifying

/-- A SET-SLOT of this record is refused with IN-USE (R33). -/
def Slot.inUse (r : Slot) : Bool :=
  match r.kind with
  | .extension => r.signingOn || r.isAdmitted || !r.partners.isEmpty
  | .tie => r.boundContext.isSome
  | _ => false

/-- The gating of a slot by its record (R26, R27). -/
def Slot.gating (r : Slot) : Gate :=
  match r.kind with
  | .unused => .unused
  | .extension => if r.isAdmitted then .passing else .closed
  | .tie => match r.boundContext with
    | some c => .bound c
    | none => .through
  | .publicTrunk => .through

end Sys2Proof.Machine
end

