-- ==== Sys2Proof/Machine/Transform.lean ====
section
/-! DEFINITION. The keyed transform and the call key (05_transform_engine), and the block computation and
markers (07_block_scrambling): arithmetic on keys, codes and nibbles, to the bit. -/

namespace Sys2Proof.Machine

/-! ### The transform -/

/-- Key word k[r mod 4] (R83). -/
def Key.word (k : Key) (r : Nat) : Word :=
  match r % 4 with
  | 0 => k.k0
  | 1 => k.k1
  | 2 => k.k2
  | _ => k.k3

/-- One round with key word `k` (R83). -/
def roundStep (k : Word) (ab : Word × Word) : Word × Word := (ab.2, (ab.1 + (ab.2 ^^^ k)).rotateLeft 5)

/-- The transform F (R83). -/
def transform (key : Key) (input : BitVec 32) : BitVec 32 :=
  let out := [0, 1, 2, 3, 4, 5, 6, 7].foldl (fun ab r => roundStep (key.word r) ab)
    (input.extractLsb' 16 16, input.extractLsb' 0 16)
  out.1 ++ out.2

/-- Input word of run `selector` of a DERIVE (R85). -/
def deriveInput (nonce : BitVec 24) (epoch selector : Nibble) : BitVec 32 := nonce ++ epoch ++ selector

/-- The call key words from the outputs of run 1 and run 2 (R85). -/
def callWords (out1 out2 : BitVec 32) : KeyWords where
  kp := out1.extractLsb' 16 16
  km := out1.extractLsb' 0 16 ||| 1
  kx := out2.extractLsb' 16 16

/-! ### The block computation -/

/-- The word W of a block (R125). -/
def blockWord (k : KeyWords) (counter : Word) : Word := (counter * k.km + k.kp) ^^^ k.kx

/-- The word T from W (R125). -/
def orderWord (w : Word) : Word := w ^^^ (w >>> 7)

/-- The entries at positions `i` and `j` exchanged (R126). -/
def exchange (order : List Nat) (i j : Nat) : List Nat := (order.set i (order.getD j 0)).set j (order.getD i 0)

/-- The order of the segments drawn from T (R126). -/
def segmentOrder (t : Nat) : List Nat :=
  ([7, 6, 5, 4, 3, 2, 1].foldl (fun (acc : List Nat × Nat) i => (exchange acc.1 i (acc.2 % (i + 1)), acc.2 / (i + 1)))
    ([0, 1, 2, 3, 4, 5, 6, 7], t)).1

/-- The mask M, 0 with masking off (R125). -/
def blockMask (masking : Bool) (w : Word) : Sample := if masking then w.extractLsb' 0 8 else 0

/-- What every code of output position `n` is combined with: M, and 0x80 when bit n of F is 1 (R127). -/
def positionMask (masking : Bool) (w : Word) (n : Nat) : Sample :=
  blockMask masking w ^^^ (if w.getLsbD (8 + n) then 0x80 else 0)

/-- A collected block as it is sent (R127). -/
def scramble (segment : Nat) (masking : Bool) (k : KeyWords) (counter : Word) (codes : List Sample) : List Sample :=
  let w := blockWord k counter
  let order := segmentOrder (orderWord w).toNat
  (List.range 8).flatMap fun n => (List.range segment).map fun i =>
    codes.getD (order.getD n 0 * segment + i) 0 ^^^ positionMask masking w n

/-- A received block as it was collected (R128): segment `order[n]` is taken from output position `n`. -/
def restore (segment : Nat) (masking : Bool) (k : KeyWords) (counter : Word) (codes : List Sample) : List Sample :=
  let w := blockWord k counter
  let order := segmentOrder (orderWord w).toNat
  (List.range 8).flatMap fun g =>
    let n := order.idxOf g
    (List.range segment).map fun i => codes.getD (n * segment + i) 0 ^^^ positionMask masking w n

/-! ### Markers -/

/-- The sum of nibbles modulo 256 (R19). -/
def nibbleSum (ns : List Nibble) : Byte := ns.foldl (fun t n => t + n.setWidth 8) 0

/-- Nibbles n0 to n13 of a marker (R19). -/
def markerFields (m : Marker) : List Nibble :=
  [0xA, BitVec.ofNat 4 m.kind.code, m.epoch,
   m.counter.extractLsb' 12 4, m.counter.extractLsb' 8 4, m.counter.extractLsb' 4 4, m.counter.extractLsb' 0 4,
   m.nonce.extractLsb' 20 4, m.nonce.extractLsb' 16 4, m.nonce.extractLsb' 12 4, m.nonce.extractLsb' 8 4,
   m.nonce.extractLsb' 4 4, m.nonce.extractLsb' 0 4, m.countdown]

/-- The 16 nibbles of a marker, its check last (R19, R130). -/
def markerNibbles (m : Marker) : List Nibble := markerFields m ++ byteNibbles (nibbleSum (markerFields m))

/-- The marker kind with a code (R139). -/
def markerKindOf (n : Nibble) : Option MarkerKind :=
  if n = 1 then some .data else if n = 2 then some .announce else if n = 3 then some .clear else none

/-- The countdown that a marker of this kind may carry (R139). -/
def legalCountdown (k : MarkerKind) (n : Nibble) : Bool :=
  match k with
  | .announce => decide (n.toNat ≤ 3)
  | _ => n == 0xF

/-- The marker that sixteen nibbles form, absent when they are not valid (R139). -/
def readMarker : List Nibble → Option Marker
  | [n0, n1, n2, n3, n4, n5, n6, n7, n8, n9, n10, n11, n12, n13, n14, n15] =>
    match markerKindOf n1 with
    | some kind =>
      if n0 = 0xA ∧ legalCountdown kind n13 = true ∧
          nibblesByte n14 n15 = nibbleSum [n0, n1, n2, n3, n4, n5, n6, n7, n8, n9, n10, n11, n12, n13] then
        some { kind := kind, epoch := n2, counter := n3 ++ n4 ++ n5 ++ n6,
               nonce := n7 ++ n8 ++ n9 ++ n10 ++ n11 ++ n12, countdown := n13 }
      else none
    | none => none
  | _ => none

/-! ### Tone bursts -/

/-- The code of sample `k` of a burst (R156). -/
def burstCode (d : ToneDescriptor) (k : Nat) : Sample :=
  let magnitude := d.magnitude - d.decrement * (k / (2 * d.halfPeriod) / d.step)
  if k % (2 * d.halfPeriod) < d.halfPeriod then byte magnitude else byte (128 + magnitude)

/-- The samples of one burst (R154). -/
def burstLength (d : ToneDescriptor) : Nat := 2 * d.halfPeriod * d.periods

end Sys2Proof.Machine
end

