-- ==== Sys2Proof/Machine/Ops.lean ====
section
/-! DEFINITION. The named operations that several commands share: reading and writing the tables, posting an
event, putting a message on a transmit queue, asking for a tone, the engine's list, and the closing and freeing
of contexts, the sign-off, the refusal and the band sweep, each in the order its rule gives. -/

namespace Sys2Proof.Machine

/-! ### Tables -/

/-- The slot record of slot `i`. -/
def State.slot (s : State) (i : SlotId) : Slot := s.slots[i]

/-- The state with slot `i`'s record replaced. -/
def State.withSlot (s : State) (i : SlotId) (r : Slot) : State := { s with slots := s.slots.set i r }

/-- The directory record at `r`, absent when free. -/
def State.record (s : State) (r : RecordId) : Option Record := s.directory[r]

/-- The state with the directory record at `r` replaced. -/
def State.withRecord (s : State) (r : RecordId) (x : Option Record) : State :=
  { s with directory := s.directory.set r x }

/-- The context at `c`, absent when FREE. -/
def State.context (s : State) (c : ContextId) : Option Context := s.contexts[c]

/-- The state with the context at `c` replaced. -/
def State.withContext (s : State) (c : ContextId) (x : Option Context) : State :=
  { s with contexts := s.contexts.set c x }

/-- Class record `k`. -/
def State.classRecord (s : State) (k : ClassId) : ClassRecord := s.classes[k]

/-- The state with class record `k` replaced. -/
def State.withClass (s : State) (k : ClassId) (x : ClassRecord) : State := { s with classes := s.classes.set k x }

/-- The state with the engine replaced. -/
def State.withEngine (s : State) (e : Engine) : State := { s with engine := e }

/-- The state with the Highway Interface replaced. -/
def State.withHighway (s : State) (h : Highway) : State := { s with highway := h }

/-- The state with the Maintenance Port replaced. -/
def State.withPort (s : State) (p : Port) : State := { s with port := p }

/-- Slot `i`'s record changed by `f`. -/
def onSlot (i : SlotId) (f : Slot → Slot) (s : State) : State := s.withSlot i (f (s.slot i))

/-- The context at `c` changed by `f`; nothing when it is FREE. -/
def onContext (c : ContextId) (f : Context → Context) (s : State) : State :=
  s.withContext c ((s.context c).map f)

/-- The directory record at `r` changed by `f`; nothing when it is free. -/
def onRecord (r : RecordId) (f : Record → Record) (s : State) : State := s.withRecord r ((s.record r).map f)

/-! ### Events and handset messages -/

/-- Posts an event (R171): nothing when its kind is disabled, the mark when the queue is full, else the tail. -/
def post (kind : EventKind) (slot : Option SlotId) (context : Option ContextId) (index : Option RecordId)
    (detail : Byte) (s : State) : State :=
  if s.events.mask.getLsbD (kind.code - 1) = false then s
  else if s.events.queue.length < Config.eventQueueSize then
    { s with events := { s.events with queue := s.events.queue ++
        [{ kind := kind, stamp := s.clock.reading, slot := slot, context := context, index := index, detail := detail }] } }
  else { s with events := { s.events with overflow := true } }

/-- Puts a message on a slot's transmit queue (R48). -/
def enqueue (i : SlotId) (m : HandsetMessage) (s : State) : State :=
  if (s.slot i).kind ≠ .extension then s
  else if (s.slot i).txQueue.length < Config.txQueueSize then
    onSlot i (fun r => { r with txQueue := r.txQueue ++ [m] }) s
  else post .txOverflow (some i) none none m.type s

/-- CHALLENGE (R46). -/
def challengeMessage (v : BitVec 32) : HandsetMessage := { type := 0x21, body := bytes32 v.toNat }

/-- ADMITTED (R46). -/
def admittedMessage (cls : ClassId) (privacy : Bool) : HandsetMessage :=
  { type := 0x22, body := [byte cls, byte (flagNat privacy)] }

/-- REFUSED (R46). -/
def refusedMessage (reason : Reason) : HandsetMessage := { type := 0x23, body := [reason.code] }

/-- STATUS, with 0xFFFFFF for an absent number (R45, R46). -/
def statusMessage (r : Slot) : HandsetMessage :=
  { type := 0x24, body := byte r.admission.code :: optional24 (r.number.map BitVec.toNat) }

/-- NOTICE (R46). -/
def noticeMessage (n : Notice) : HandsetMessage := { type := 0x25, body := [n.code] }

/-- Puts the ADMITTED message of the slot's admission on its queue (R46, R63). -/
def enqueueAdmitted (i : SlotId) (s : State) : State :=
  match (s.slot i).admissionClass with
  | some k => enqueue i (admittedMessage k (!(s.slot i).visitor && (s.classRecord k).privacy)) s
  | none => s

/-- Removes every message not begun from a slot's queue (R50). A start that was due in this frame does not take place
(R49; DESIGN CHOICE, log entry 24). -/
def Slot.dropUnbegun (r : Slot) : Slot :=
  match r.transmitter with
  | .sending _ => { r with txQueue := r.txQueue.take 1, startDue := false }
  | _ => { r with txQueue := [], startDue := false }

/-- Removes every message, the one being sent too (R50), and a start due in this frame with them (DESIGN CHOICE, log
entry 24). -/
def Slot.dropAllMessages (r : Slot) : Slot := { r with txQueue := [], transmitter := .idle, startDue := false }

/-! ### Tones -/

/-- The start of a tone from a descriptor (R159). -/
def startTone (d : ToneId) (x : ToneDescriptor) : Tone :=
  { descriptor := x, index := d, begun := 1, phase := .burst 0 }

/-- A tone request at a player (R159). -/
def Slot.requestTone (r : Slot) (d : ToneId) (x : ToneDescriptor) : ToneOutcome × Slot :=
  match r.tone with
  | none => (.started, { r with tone := some (startTone d x) })
  | some t =>
    if t.descriptor.priority < x.priority then (.started, { r with tone := some (startTone d x) })
    else match r.pendingTone with
      | none => (.waiting, { r with pendingTone := some { index := d, priority := x.priority } })
      | some p =>
        if p.priority < x.priority then
          (.replaced, { r with pendingTone := some { index := d, priority := x.priority } })
        else (.dropped, r)

/-- The end of the current tone, which takes the pending tone (R160). -/
def Slot.endTone (tones : Tones) (r : Slot) : Slot :=
  match r.pendingTone with
  | none => { r with tone := none }
  | some p => { r with tone := tones.descriptors[p.index].map (startTone p.index), pendingTone := none }

/-- The player without its current and pending tones (R158). -/
def Slot.dropTones (r : Slot) : Slot := { r with tone := none, pendingTone := none }

/-- A function's entry in the tone function table (R163). -/
def ToneFunctions.entry (t : ToneFunctions) : ToneFunction → Option ToneId
  | .admission => t.admission
  | .refused => t.refused
  | .expiring => t.expiring
  | .privacyOn => t.privacyOn
  | .privacyLost => t.privacyLost
  | .privacyOff => t.privacyOff

/-- Requests a tone function for a slot (R164). -/
def requestFunction (f : ToneFunction) (i : SlotId) (s : State) : State :=
  match s.tones.functions.entry f with
  | none => s
  | some d => match s.tones.descriptors[d] with
    | none => s
    | some x => if (s.slot i).kind = .extension then onSlot i (fun r => (r.requestTone d x).2) s else s

/-! ### Engine list and nonce source -/

/-- Same requester and kind (R89). -/
def Job.sameRequester : Job → Job → Bool
  | .verify i _ _, .verify j _ _ => i == j
  | .txKey c _ _ _, .txKey d _ _ _ => c == d
  | .rxKey c _ _ _, .rxKey d _ _ _ => c == d
  | _, _ => false

/-- The VERIFY of slot `i`. -/
def Job.isVerifyOf (i : SlotId) : Job → Bool
  | .verify j _ _ => i == j
  | _ => false

/-- The RX-KEY of context `c`. -/
def Job.isRxOf (c : ContextId) : Job → Bool
  | .rxKey d _ _ _ => c == d
  | _ => false

/-- Either derive of context `c`. -/
def Job.isDeriveOf (c : ContextId) : Job → Bool
  | .txKey d _ _ _ => c == d
  | .rxKey d _ _ _ => c == d
  | _ => false

/-- Withdraws the requests that `p` selects, aborting one in flight (R92). -/
def Engine.withdraw (p : Job → Bool) (e : Engine) : Engine :=
  let aborted := e.requests.any fun q => q.inFlight && p q.job
  { e with
    requests := e.requests.filter fun q => !p q.job
    operation := if aborted then none else e.operation
    toRest := e.toRest || aborted }

/-- Posts a request, withdrawing the one it replaces (R89). -/
def Engine.post (j : Job) (e : Engine) : Engine :=
  let cleared := e.withdraw (Job.sameRequester j)
  { cleared with requests := cleared.requests ++ [{ job := j, inFlight := false, eligible := false }] }

/-- Stops the engine at a soft reset (R97). -/
def Engine.stop (e : Engine) : Engine :=
  { e with requests := [], operation := none, toRest := e.toRest || e.operation.isSome }

/-- Withdraws requests from the engine. -/
def withdraw (p : Job → Bool) (s : State) : State := s.withEngine (s.engine.withdraw p)

/-- Posts a request to the engine. -/
def postJob (j : Job) (s : State) : State := s.withEngine (s.engine.post j)

/-- A draw: the value after it is the nonce drawn (R96). -/
def drawNonce (s : State) : State :=
  s.withEngine { s.engine with nonce := s.engine.nonce + Config.nonceStep + BitVec.ofNat 24 s.clock.reading.frame }

/-- The challenge value of a draw just made (R96). -/
def challengeValue (s : State) : BitVec 32 := s.engine.nonce ++ BitVec.ofNat 8 s.clock.reading.frame

/-! ### Scrambler blocks -/

/-- Frames of a block, 8L (R103). -/
def Profile.blockLength (p : Profile) : Nat := 8 * p.segment

/-- The counter of the next block under the current key (R124). -/
def Scrambler.nextCounter (sc : Scrambler) : Word :=
  match sc.last with
  | some c => c + 1
  | none => 0

/-- Emits the collected block as a DATA block under the current key (R124, R129). -/
def Scrambler.emitData (p : Profile) (sc : Scrambler) : Scrambler :=
  match sc.current with
  | none => { sc with emission := .idle }
  | some k =>
    let c := sc.nextCounter
    { sc with
      last := some c
      emission := .block { kind := .data, epoch := k.epoch, counter := c, nonce := k.nonce, countdown := 0xF }
        (scramble p.segment p.masking k.words c sc.collected) }

/-- Emits the collected block as an ANNOUNCE block with a countdown (R129, R131, R132). -/
def Scrambler.emitAnnounce (p : Profile) (countdown : Nat) (sc : Scrambler) : Scrambler :=
  match sc.current, sc.next with
  | some k, some n =>
    let c := sc.nextCounter
    { sc with
      state := .announcing
      last := some c
      countdown := some countdown
      emission := .block
        { kind := .announce, epoch := k.epoch, counter := c, nonce := n.nonce, countdown := BitVec.ofNat 4 countdown }
        (scramble p.segment p.masking k.words c sc.collected) }
  | _, _ => { sc with emission := .idle }

/-- The next key becomes the current key (R123, R132). -/
def Scrambler.switchKey (sc : Scrambler) : Scrambler :=
  match sc.next with
  | some { nonce := n, epoch := e, words := some w, fresh := _ } =>
    { sc with state := .running, current := some { nonce := n, epoch := e, words := w }, next := none,
              last := none, countdown := none }
  | _ => sc

/-- The boundary of a RUNNING or ANNOUNCING scrambler, less the triggers that follow it (R124, R132). -/
def Context.assignBlock (x : Context) : Context :=
  let sc := x.scrambler
  match sc.state, sc.countdown with
  | .running, _ => { x with scrambler := sc.emitData x.profile, boundaryDue := false }
  | .announcing, some (n + 1) => { x with scrambler := sc.emitAnnounce x.profile n, boundaryDue := false }
  | .announcing, _ =>
    { x with
      scrambler := sc.switchKey.emitData x.profile
      rekeys := raise Config.count16Max x.rekeys
      boundaryDue := false }
  | _, _ => x

/-- The scrambler is RUNNING or ANNOUNCING. -/
def Scrambler.sending (sc : Scrambler) : Bool := sc.state == .running || sc.state == .announcing

/-! ### Closing and freeing contexts -/

/-- A descrambler that takes nothing and sends the idle code (R108). -/
def Descrambler.halted : Descrambler where
  state := .hunt
  window := []
  offset := none
  buffer := []
  accepted := none
  restored := none
  expected := none
  switchDue := false
  held := none
  pending := none
  sighted := false
  good := 0
  miss := 0
  hunt := none
  upcoming := none
  markerDue := false
  restoreDue := false

/-- The call record of a context freed in this state (R110). -/
def callRecord (x : Context) (s : State) : CallRecord where
  tie := x.tie
  ext := x.ext
  index := x.index
  number := x.number
  site := x.site
  openStamp := x.openStamp
  closeStamp := s.clock.reading
  duration := x.elapsed / Config.framesPerSecond
  cause := x.cause
  rekeys := x.rekeys
  syncLosses := x.syncLosses
  reached := x.reached

/-- Stores a call record (R174). -/
def storeRecord (r : CallRecord) (s : State) : State :=
  if s.records.queue.length < Config.recordQueueSize then
    { s with records := { s.records with queue := s.records.queue ++ [r] } }
  else { s with records := { s.records with discarded := raise Config.count16Max s.records.discarded } }

/-- Removes the bindings of context `c` (R28). -/
def unbind (c : ContextId) (x : Context) (s : State) : State :=
  s |> onSlot x.tie (fun r => { r with boundContext := none })
    |> onSlot x.ext (fun r => { r with partners := r.partners.filter (· != c) })

/-- The PRIVACY-OFF notice and tone of a free (step 5 of R110). -/
def privacyOff (x : Context) (s : State) : State :=
  if x.reached && !x.gone && !(x.cause.any CloseCause.silent) then
    s |> enqueue x.ext (noticeMessage .privacyOff) |> requestFunction .privacyOff x.ext
  else s

/-- The code of a context's close cause. -/
def causeByte (x : Context) : Byte := byte ((x.cause.map CloseCause.code).getD 0xFF)

/-- Steps 1 to 4 of a free: the bindings go, the call record is stored, CONTEXT-CLOSED is posted (R110). -/
def recordFree (c : ContextId) (x : Context) (s : State) : State :=
  s |> unbind c x
    |> storeRecord (callRecord x s)
    |> post .contextClosed (some x.tie) (some c) (some x.index) (causeByte x)

/-- Frees a context (R110). -/
def freeContext (c : ContextId) (s : State) : State :=
  match s.context c with
  | none => s
  | some x => s |> recordFree c x |> privacyOff x |> (·.withContext c none)

/-- Frees a context without PRIVACY-OFF, whatever its close cause (R119). -/
def freeQuietly (c : ContextId) (s : State) : State :=
  match s.context c with
  | none => s
  | some x => s |> recordFree c x |> (·.withContext c none)

/-- The context as a close leaves it before the scrambler's part (steps 1 and 3 of R108). -/
def Context.haltFor (cause : CloseCause) (x : Context) : Context :=
  { x with cause := some cause, descrambler := Descrambler.halted }

/-- The context entering CLOSING; a boundary due in this frame is taken as that of the state left (R134; DEDUCED, log
entry 10: it counts a completed rekey when it switches the key). -/
def Context.startClearing (x : Context) : Context :=
  let y := if x.boundaryDue then x.assignBlock else x
  { y with
    phase := .closing
    scrambler := { y.scrambler with state := .clearing, next := none, countdown := none, clearCount := 0 } }

/-- Closes an OPENING or OPEN context (R108). -/
def closeContext (c : ContextId) (cause : CloseCause) (s : State) : State :=
  match s.context c with
  | none => s
  | some x =>
    if x.phase = .closing then s
    else if x.scrambler.sending && !cause.silent then
      withdraw (Job.isDeriveOf c) s |> (·.withContext c (some (x.haltFor cause).startClearing))
    else
      withdraw (Job.isDeriveOf c) s |> (·.withContext c (some (x.haltFor cause))) |> freeContext c

/-- Closes or, in CLOSING, frees a context with a silent cause (R11, R119). A context in CLOSING keeps its own close
cause, by which step 5 of R110 would put PRIVACY-OFF; a soft reset puts none, as R119 says (DEDUCED, log entry 21). -/
def sweepContext (cause : CloseCause) (c : ContextId) (s : State) : State :=
  match s.context c with
  | none => s
  | some x =>
    if x.phase = .closing then (if cause.resets then freeQuietly c s else freeContext c s)
    else closeContext c cause s

/-! ### Sign-off, abandon, refusal -/

/-- The record whose sign-on is pending at slot `i`. -/
def pendingRecord (i : SlotId) (s : State) : Option RecordId :=
  recordIds.find? fun r => (s.record r).any fun x => x.pendingSlot == some i

/-- The pending record of slot `i` loses its sign-on-pending slot. -/
def clearPending (i : SlotId) (s : State) : State :=
  match pendingRecord i s with
  | some r => onRecord r (fun x => { x with pendingSlot := none }) s
  | none => s

/-- Marks a context's partner as gone (step 1 of R75). -/
def markGone (c : ContextId) (s : State) : State := onContext c (fun x => { x with gone := true }) s

/-- The directory record or the visitor count lets the slot go (step 4 of R75). -/
def releaseAdmission (r : Slot) (s : State) : State :=
  match r.boundIndex with
  | some x => onRecord x (fun d => { d with admittedSlot := none }) s
  | none => if r.visitor then { s with visitors := { s.visitors with count := s.visitors.count - 1 } } else s

/-- The slot record without its admission (step 5 of R75). -/
def Slot.lockOut (r : Slot) : Slot :=
  { r with admission := .locked, boundIndex := none, number := none, admissionClass := none, visitor := false }

/-- A sign-off of an admitted slot (R75, R29). -/
def signOffSlot (cause : SignOffCause) (i : SlotId) (s : State) : State :=
  let r := s.slot i
  if r.isAdmitted then
    s |> forEach r.partners markGone
      |> forEach r.partners (fun c => closeContext c .signOff)
      |> onSlot i Slot.dropTones
      |> onSlot i Slot.dropUnbegun
      |> releaseAdmission r
      |> onSlot i Slot.lockOut
      |> post .signedOff (some i) none r.boundIndex cause.code
  else s

/-- An abandon of a sign-on in progress (R74). -/
def abandon (i : SlotId) (s : State) : State :=
  if (s.slot i).signingOn then
    s |> withdraw (Job.isVerifyOf i)
      |> clearPending i
      |> onSlot i (fun r => { r with admission := .locked, responseTimer := none, challenge := none })
  else s

/-- Step 1 of a refusal (R66), with the withdrawal of R78. -/
def stopSignOn (i : SlotId) (s : State) : State :=
  if (s.slot i).signingOn then
    s |> withdraw (Job.isVerifyOf i)
      |> clearPending i
      |> onSlot i (fun r => { r with responseTimer := none, challenge := none })
  else s

/-- Steps 3 to 6 of a refusal (R66). -/
def concludeRefusal (i : SlotId) (reason : Reason) (index : Option RecordId) (s : State) : State :=
  s |> enqueue i (refusedMessage reason)
    |> onSlot i (fun r =>
      if s.timers.refusalHold = 0 then { r with admission := .locked, refusalHold := none }
      else { r with admission := .hold, refusalHold := some { elapsed := 0, due := false } })
    |> requestFunction .refused i
    |> post .signOnRefused (some i) none index reason.code

/-- What follows a record's becoming BARRED (R78). -/
def barRecord (r : RecordId) (s : State) : State :=
  let refused := match (s.record r).bind Record.pendingSlot with
    | some p => s |> stopSignOn p |> concludeRefusal p .barred (some r)
    | none => s
  match (refused.record r).bind Record.admittedSlot with
  | some a => signOffSlot .barred a refused
  | none => refused

/-- Sets a record's fault counter and standing, posting a change of standing. -/
def setStandingOf (r : RecordId) (faults : Nat) (standing : Standing) (s : State) : State :=
  match s.record r with
  | none => s
  | some x =>
    let t := s.withRecord r (some { x with faults := faults, standing := standing })
    if x.standing = standing then t else post .standingChanged none none (some r) (byte standing.code) t

/-- A failure against a record (R76). -/
def countFailure (r : RecordId) (s : State) : State :=
  match s.record r with
  | none => s
  | some x =>
    if x.standing = .barred then s
    else if Config.faultMax < x.faults + Config.faultStep then
      s |> setStandingOf r Config.faultMax .barred |> barRecord r
    else
      let n := x.faults + Config.faultStep
      setStandingOf r n (if Config.suspectAt ≤ n then .suspect else x.standing) s

/-- A success of a record (R77). -/
def countSuccess (r : RecordId) (s : State) : State :=
  match s.record r with
  | none => s
  | some x =>
    match x.standing with
    | .good => setStandingOf r (x.faults - 1) .good s
    | .suspect => setStandingOf r Config.restoredFaults .good s
    | .barred => s

/-- The reasons that are failures (R66). -/
def Reason.isFailure : Reason → Bool
  | .wrongHandset | .noResponse | .badResponse => true
  | _ => false

/-- A refusal of the sign-on at slot `i` (R66). -/
def refuse (i : SlotId) (reason : Reason) (index : Option RecordId) (s : State) : State :=
  let stopped := stopSignOn i s
  let counted := match index with
    | some r => if reason.isFailure then countFailure r stopped else stopped
    | none => stopped
  concludeRefusal i reason index counted

/-! ### Time bands -/

/-- The expiry sweep of class `k` at one slot (R58). -/
def sweepSlot (k : ClassId) (i : SlotId) (s : State) : State :=
  let r := s.slot i
  if r.kind = .extension ∧ r.admission = .admitted ∧ r.admissionClass = some k then
    if Config.expiringIdleFrames ≤ r.idle then signOffSlot .outOfHours i s
    else
      s |> onSlot i (fun r => { r with admission := .expiring })
        |> enqueue i (noticeMessage .expiring)
        |> requestFunction .expiring i
  else s

/-- The restore of class `k` at one slot (R59). -/
def restoreSlot (k : ClassId) (i : SlotId) (s : State) : State :=
  let r := s.slot i
  if r.kind = .extension ∧ r.admission = .expiring ∧ r.admissionClass = some k then
    s |> onSlot i (fun r => { r with admission := .admitted }) |> enqueueAdmitted i
  else s

/-- Recomputes class `k`'s in-band flag from the clock, with its sweep or restore (R56). The slots are restored in
ascending order (R59 gives none; DESIGN CHOICE, log entry 27). -/
def recomputeBand (k : ClassId) (s : State) : State :=
  let x := s.classRecord k
  let now := inBandAt x.bandStart x.bandEnd (minuteOfDay s.clock.reading)
  if now = x.inBand then s
  else
    let t := s.withClass k { x with inBand := now }
      |> post .bandChange none none none (byte (k.val + (if now then 0x80 else 0)))
    if now then forEach slotIds (restoreSlot k) t else forEach slotIds (sweepSlot k) t

/-- Recomputes every class in ascending order (R56). -/
def recomputeBands (s : State) : State := forEach (List.finRange 8) recomputeBand s

/-! ### Privacy -/

/-- Establishes privacy when descrambler and scrambler allow it for the first time (R107). -/
def testPrivacy (c : ContextId) (s : State) : State :=
  match s.context c with
  | none => s
  | some x =>
    if x.phase ≠ .closing ∧ x.reached = false ∧ x.descrambler.state = .sync ∧ x.scrambler.sending = true then
      s |> onContext c (fun y => { y with reached := true })
        |> post .privacyUp (some x.tie) (some c) (some x.index) 0
        |> enqueue x.ext (noticeMessage .privacyOn)
        |> requestFunction .privacyOn x.ext
    else s

/-- A rekey start of a RUNNING scrambler (R115). -/
def startRekey (c : ContextId) (s : State) : State :=
  match s.context c with
  | none => s
  | some x =>
    if x.scrambler.state = .running then
      let drawn := drawNonce s
      let nonce := drawn.engine.nonce
      let epoch := (x.scrambler.current.map CallKey.epoch).getD 0 + 1
      drawn
        |> (·.withContext c (some { x with
            rekeyElapsed := 0
            scrambler := { x.scrambler with
              state := .rekeying
              next := some { nonce := nonce, epoch := epoch, words := none, fresh := false } } }))
        |> postJob (.txKey c x.site nonce epoch)
    else s

/-! ### Commands while the frame pulse runs -/

/-- The outcome of a command: nothing changes while the frame pulse is stopped (R1). While it is awaited
after power-on or the reset pin, also one given during a stop, a command acts (DESIGN CHOICE, log entry 5). An event that
has not fallen due has no effect (DESIGN CHOICE, log entry 2). -/
def whileRunning (f : State → State) (s : State) : Host.Outcome State Fault Refusal :=
  .next (if s.clock.timebase = .stopped then s else f s)

end Sys2Proof.Machine
end

