-- ==== Sys2Proof/Machine/Admission.lean ====
section
/-! DEFINITION. The sign-on protocol (04_extension_admission): SIGN_ON, RESPONSE and SIGN_OFF at a slot, the
response timeout, the end of the refusal hold, the verdict of a VERIFY, and the idle sign-off of an EXPIRING slot. -/

namespace Sys2Proof.Machine

/-- The in-use record that holds a number (R52: at most one). -/
def findRecord (n : ExtensionNumber) (s : State) : Option RecordId :=
  recordIds.find? fun r => (s.record r).any fun x => x.number == n

/-- The care mask a visitor rule selects (R60). -/
def Visitors.maskOf (v : Visitors) : MaskSelect → BitVec 6
  | .a => v.maskA
  | .b => v.maskB

/-- The lowest-numbered in-use visitor rule that matches a number (R60). -/
def matchingRule (n : ExtensionNumber) (s : State) : Option VisitorRule :=
  s.visitors.rules.toList.find? fun v => v.inUse && matchesPattern (s.visitors.maskOf v.mask) v.pattern n

/-- Some slot other than `i` is admitted as a visitor under a number (R65, R53 with `i` absent). -/
def visitorElsewhere (i : Option SlotId) (n : ExtensionNumber) (s : State) : Bool :=
  slotIds.any fun j => some j != i && (s.slot j).isAdmitted && (s.slot j).visitor && (s.slot j).number == some n

/-- A visitor admission (step 5 of R65). -/
def admitVisitor (i : SlotId) (n : ExtensionNumber) (k : ClassId) (s : State) : State :=
  { s with visitors := { s.visitors with count := s.visitors.count + 1 } }
    |> onSlot i (fun r => { r with
        admission := .admitted, visitor := true, number := some n, admissionClass := some k, boundIndex := none })
    |> enqueueAdmitted i
    |> post .signedOn (some i) none none (byte (k.val + 0x80))
    |> requestFunction .admission i

/-- A sign-on judged by the visitor rules (R65). -/
def judgeVisitor (i : SlotId) (n : ExtensionNumber) (s : State) : State :=
  match matchingRule n s with
  | none => refuse i .unknown none s
  | some v =>
    if (s.classRecord v.cls).inBand = false then refuse i .outOfHours none s
    else if visitorElsewhere (some i) n s then refuse i .busy none s
    else if Config.visitorMax ≤ s.visitors.count then refuse i .visitorsFull none s
    else admitVisitor i n v.cls s

/-- A challenged sign-on (step 6 of R64). -/
def challengeSlot (i : SlotId) (r : RecordId) (s : State) : State :=
  let drawn := drawNonce s
  let v := challengeValue drawn
  drawn
    |> onRecord r (fun x => { x with pendingSlot := some i })
    |> onSlot i (fun x => { x with
        admission := .challenged, challenge := some v, responseTimer := some { elapsed := 0, due := false } })
    |> enqueue i (challengeMessage v)

/-- A SIGN-ON at a slot in LOCKED (R64). -/
def judgeSignOn (i : SlotId) (n : ExtensionNumber) (serial : BitVec 48) (s : State) : State :=
  if wellFormedNumber n = false then refuse i .malformed none s
  else match findRecord n s with
    | none => judgeVisitor i n s
    | some r => match s.record r with
      | none => s
      | some x =>
        if x.standing = .barred then refuse i .barred (some r) s
        else if serial ≠ x.serial then refuse i .wrongHandset (some r) s
        else if (s.classRecord x.cls).inBand = false then refuse i .outOfHours (some r) s
        else if x.pendingSlot.isSome then refuse i .busy (some r) s
        else challengeSlot i r s

/-- A SIGN-ON handed to the Admission Unit (R69, R72). -/
def takeSignOn (i : SlotId) (n : ExtensionNumber) (serial : BitVec 48) (s : State) : State :=
  match (s.slot i).admission with
  | .locked => judgeSignOn i n serial s
  | .admitted | .expiring =>
    if (s.slot i).number = some n then enqueueAdmitted i s
    else s |> signOffSlot .replaced i |> judgeSignOn i n serial
  | .challenged | .verifying | .hold => s

/-- A RESPONSE handed to the Admission Unit (R68). -/
def takeResponse (i : SlotId) (answer : BitVec 32) (s : State) : State :=
  if (s.slot i).admission = .challenged then
    let t := onSlot i (fun r => { r with admission := .verifying, responseTimer := none }) s
    match pendingRecord i s with
    | some r => postJob (.verify i r answer) t
    | none => t
  else s

/-- A SIGN-OFF handed to the Admission Unit (R69). -/
def takeSignOff (i : SlotId) (s : State) : State :=
  if (s.slot i).signingOn then abandon i s else signOffSlot .handset i s

/-- A running timer that fell due in this frame and still stands at or above its limit (R67, R73, R81). A SET-TIMERS
taken first in that frame stops the expiry by a limit above the count, and leaves it in this frame by any other
(DESIGN CHOICE, log entry 25). -/
def expired (limit : Nat) (t : Option Timer) : Bool := t.any fun x => x.due && decide (limit ≤ x.elapsed)

/-- The response timer's expiry, when it is due (R67). -/
def responseTimeout (i : SlotId) (s : State) : State :=
  if (s.slot i).admission = .challenged ∧ expired s.timers.responseTimeout (s.slot i).responseTimer = true then
    refuse i .noResponse (pendingRecord i s) s
  else s

/-- The refusal hold's expiry, when it is due (R73). -/
def refusalHoldEnd (i : SlotId) (s : State) : State :=
  if (s.slot i).admission = .hold ∧ expired s.timers.refusalHold (s.slot i).refusalHold = true then
    onSlot i (fun r => { r with admission := .locked, refusalHold := none }) s
  else s

/-- A successful sign-on (R71). -/
def succeed (i : SlotId) (r : RecordId) (s : State) : State :=
  match s.record r with
  | none => s
  | some x =>
    let cleared := s
      |> onRecord r (fun y => { y with pendingSlot := none })
      |> onSlot i (fun y => { y with challenge := none })
    let moved := match x.admittedSlot with
      | some a => signOffSlot .moved a cleared
      | none => cleared
    moved
      |> onSlot i (fun y => { y with
          admission := .admitted, boundIndex := some r, number := some x.number,
          admissionClass := some x.cls, visitor := false })
      |> onRecord r (fun y => { y with admittedSlot := some i, lastSignOn := some s.clock.reading })
      |> countSuccess r
      |> enqueueAdmitted i
      |> post .signedOn (some i) none (some r) (byte x.cls.val)
      |> requestFunction .admission i

/-- The verdict on a VERIFY's output (R70). -/
def judgeVerify (i : SlotId) (r : RecordId) (answer output : BitVec 32) (s : State) : State :=
  match s.record r with
  | none => s
  | some x =>
    if (s.slot i).admission = .verifying ∧ x.pendingSlot = some i then
      if output ≠ answer then refuse i .badResponse (some r) s
      else if (s.classRecord x.cls).inBand = false then refuse i .outOfHours (some r) s
      else succeed i r s
    else s

/-- The slot's idle duration has been brought up to date in this frame (R24). -/
def idleUpToDate (i : SlotId) (s : State) : Bool := s.highway.observed && !(s.slot i).changeDue

/-- The idle sign-off of an EXPIRING slot, when it is due (R32). -/
def expiringIdleSignOff (i : SlotId) (s : State) : State :=
  let r := s.slot i
  if r.admission = .expiring ∧ idleUpToDate i s = true ∧ Config.expiringIdleFrames ≤ r.idle then
    signOffSlot .outOfHours i s
  else s

/-! ### The commands -/

/-- RESPONSE_TIMEOUT. -/
def execResponseTimeout (i : SlotId) (s : State) : Host.Outcome State Fault Refusal := whileRunning (responseTimeout i) s

/-- REFUSAL_HOLD_END. -/
def execRefusalHoldEnd (i : SlotId) (s : State) : Host.Outcome State Fault Refusal := whileRunning (refusalHoldEnd i) s

/-- EXPIRING_IDLE_SIGN_OFF. -/
def execExpiringIdleSignOff (i : SlotId) (s : State) : Host.Outcome State Fault Refusal :=
  whileRunning (expiringIdleSignOff i) s

end Sys2Proof.Machine
end

