-- ==== Sys2Proof/Machine/Port.lean ====
section
/-! DEFINITION. The Maintenance Port (11_maintenance_channel): the status of a request, the holding buffer, the
response on the upstream stream. -/

namespace Sys2Proof.Machine

/-- Status codes (R179). -/
inductive Status where
  | ok
  | unknownRequest
  | badLength
  | badArgument
  | notFound
  | inUse
  | duplicate
  | wrongState
  | policy
  deriving DecidableEq, Repr

/-- Status code byte (R179). -/
def Status.code : Status → Byte
  | .ok => 0
  | .unknownRequest => 1
  | .badLength => 2
  | .badArgument => 3
  | .notFound => 4
  | .inUse => 5
  | .duplicate => 6
  | .wrongState => 8
  | .policy => 9

/-- A request's answer and the state after it acted. -/
structure Answer where
  status : Status
  body : List Byte
  state : State

/-- OK with a body. -/
def answerWith (body : List Byte) (s : State) : Answer := { status := .ok, body := body, state := s }

/-- OK with an empty body. -/
def ok (s : State) : Answer := answerWith [] s

/-- A refusal, which changes nothing (00_scope, section 4.2). -/
def refusedWith (status : Status) (s : State) : Answer := { status := status, body := [], state := s }

/-- The request assembler returns to HUNT with no previous byte (R178). -/
def huntPort (s : State) : State := s.withPort { s.port with assembler := .hunt none }

/-- An acted request takes its place in the holding buffer with its answer (R179, R180). -/
def hold (code : Byte) (a : Answer) : State :=
  a.state.withPort { a.state.port with
    holding := a.state.port.holding ++ [{ code := code, status := a.status.code, body := a.body }] }

/-- A completed request: discarded with the overrun mark when the buffer is full, else it acts (R179, R180). The
assembler is in HUNT after it, whichever way the request came (DESIGN CHOICE, log entry 6). -/
def offer (code : Byte) (act : State → Answer) (s : State) : State :=
  let t := huntPort s
  if Config.holdingSize ≤ t.port.holding.length then t.withPort { t.port with overrun := true }
  else hold code (act t)

/-- A request of `size` body bytes: BAD-LENGTH for a body of another size (R179). -/
def request (code : Byte) (size : Nat) (act : List Byte → State → Answer) (body : List Byte) (s : State) : State :=
  offer code (fun t => if body.length = size then act body t else refusedWith .badLength t) s

/-- A message discarded by the request assembler (R178). -/
def rejectMessage (s : State) : State :=
  s.withPort { s.port with assembler := .hunt none, rejected := raise Config.count16Max s.port.rejected }

/-- A request whose code names none is answered UNKNOWN-REQUEST (R179). -/
def unknownRequest (code : Byte) (s : State) : State := offer code (refusedWith .unknownRequest) s

/-! ### Responses -/

/-- The next word of a response; a last odd byte is followed by the pad byte (R177). -/
def responseWord : List Byte → Word
  | [] => 0
  | [a] => a ++ (0 : Byte)
  | a :: b :: _ => a ++ b

/-- A response on the line, formed with the flags of this state (R17, R179). -/
def responseBytes (h : Held) (s : State) : List Byte :=
  let counted := bytes16 (h.body.length + 3) ++ [h.code + 0x80, h.status, responseFlags s] ++ h.body
  [0xD2, 0x4B] ++ counted ++ bytes16 (sum16 counted).toNat

/-- The transmitter's part of a frame's start (R177): an IDLE one forms its maintenance idle word now, or with
`idleWordLast` after the frame's posts and stores (R176; DESIGN CHOICE, log entry 3). In the `first` frame after power-on or
the reset pin the word is 0x0000 whatever the frame posts (R185), and no response begins (DESIGN CHOICE, log entry 5). -/
def beginUpstream (first idleWordLast : Bool) (s : State) : State :=
  match s.port.transmitter with
  | .idle =>
    if first then s.withPort { s.port with word := 0, startDue := false, idleWordDue := false }
    else s.withPort { s.port with
      word := maintenanceIdle s, startDue := !s.port.holding.isEmpty, idleWordDue := idleWordLast }
  | .sending rest => s.withPort { s.port with
      word := responseWord rest, transmitter := .sending (rest.drop 2), startDue := false, idleWordDue := false }

/-- The maintenance idle word of a frame whose posts and stores have been taken, when it is still to be formed and no
response has begun in its place (R176, R177). -/
def formIdleWord (s : State) : State :=
  if s.port.idleWordDue = true ∧ s.port.transmitter = .idle then
    s.withPort { s.port with word := maintenanceIdle s, idleWordDue := false }
  else s

/-- The next held request's response begins, when the transmitter was IDLE at the frame's start (R179). -/
def responseStart (s : State) : State :=
  match s.port.startDue, s.port.transmitter, s.port.holding with
  | true, .idle, h :: _ =>
    let bytes := responseBytes h s
    s.withPort { s.port with
      word := responseWord bytes, transmitter := .sending (bytes.drop 2), overrun := false, startDue := false }
  | _, _, _ => s

/-- The request leaves the buffer once the last word of its response is given (R180). -/
def responseEnd (s : State) : State :=
  match s.port.transmitter with
  | .sending [] => s.withPort { s.port with transmitter := .idle, holding := s.port.holding.tail }
  | _ => s

/-! ### The commands -/

/-- REJECTED_MESSAGE. -/
def execRejectedMessage (s : State) : Host.Outcome State Fault Refusal := whileRunning rejectMessage s

/-- UNKNOWN_REQUEST. -/
def execUnknownRequest (code : Byte) (_body : List Byte) (s : State) : Host.Outcome State Fault Refusal :=
  whileRunning (unknownRequest code) s

/-- RESPONSE_START. -/
def execResponseStart (s : State) : Host.Outcome State Fault Refusal := whileRunning responseStart s

/-- RESPONSE_END. -/
def execResponseEnd (s : State) : Host.Outcome State Fault Refusal := whileRunning responseEnd s

end Sys2Proof.Machine
end

