-- ==== Sys2Proof/Machine/DirectoryRequests.lean ====
section
/-! DEFINITION. The requests on the directory, the classes and the visitor rules (04_extension_admission). -/

namespace Sys2Proof.Machine

/-- A record that a slot is admitted or signing on under (R53, R54). -/
def Record.inUse (x : Record) : Bool := x.admittedSlot.isSome || x.pendingSlot.isSome

/-- Another in-use record holds a number (R53). -/
def numberElsewhere (r : RecordId) (n : ExtensionNumber) (s : State) : Bool :=
  recordIds.any fun q => q != r && (s.record q).any fun x => x.number == n

/-- The record that an accepted LOAD-ENTRY writes (R53). -/
def loadedRecord (body : List Byte) (k : ClassId) : Record where
  number := BitVec.ofNat 24 (field24 body 2)
  serial := BitVec.ofNat 48 (field48 body 5)
  secret := fieldKey body 11
  cls := k
  faults := 0
  standing := .good
  admittedSlot := none
  lastSignOn := none
  pendingSlot := none

/-- LOAD-ENTRY: the checks in the order of R53, then the write and the event of a restored standing. -/
def loadEntry (body : List Byte) (s : State) : Answer :=
  match indexOf 512 (field16 body 0), indexOf 8 (byteAt body 19) with
  | some r, some k =>
    let x := loadedRecord body k
    if wellFormedNumber x.number = false then refusedWith .badArgument s
    else if (s.record r).any Record.inUse then refusedWith .inUse s
    else if visitorElsewhere none x.number s then refusedWith .inUse s
    else if numberElsewhere r x.number s then refusedWith .duplicate s
    else
      let written := s.withRecord r (some x)
      if (s.record r).any (fun old => old.standing != .good) then
        ok (post .standingChanged none none (some r) (byte Standing.good.code) written)
      else ok written
  | _, _ => refusedWith .badArgument s

/-- DELETE-ENTRY (R54). -/
def deleteEntry (body : List Byte) (s : State) : Answer :=
  match indexOf 512 (field16 body 0) with
  | none => refusedWith .badArgument s
  | some r => match s.record r with
    | none => refusedWith .notFound s
    | some x => if x.inUse then refusedWith .inUse s else ok (s.withRecord r none)

/-- The 23 bytes of one record in READ-DIRECTORY; the enrolment secret is not among them (R55). -/
def recordBytes (r : RecordId) (x : Record) : List Byte :=
  bytes16 r.val ++ bytes24 x.number.toNat ++ bytes48 x.serial.toNat ++
  [byte x.cls.val, byte x.faults, byte x.standing.code] ++
  optional8 (x.admittedSlot.map SlotId.number) ++ optional8 (x.pendingSlot.map SlotId.number) ++
  optionalStamp x.lastSignOn

/-- The first `count` in-use records from `start` upward, in index order (R55). -/
def scanDirectory (start count : Nat) (s : State) : List (RecordId × Record) :=
  ((recordIds.drop start).filterMap fun r => (s.record r).map fun x => (r, x)).take count

/-- READ-DIRECTORY (R55). -/
def readDirectory (body : List Byte) (s : State) : Answer :=
  let start := field16 body 0
  let count := byteAt body 2
  if 511 < start ∨ count = 0 ∨ 16 < count then refusedWith .badArgument s
  else
    let found := scanDirectory start count s
    let next := match found.getLast? with
      | some last => if found.length = count then last.1.val + 1 else 512
      | none => 512
    answerWith (bytes16 next ++ [byte found.length] ++ found.flatMap fun e => recordBytes e.1 e.2) s

/-- SET-STANDING (R80). -/
def setStanding (body : List Byte) (s : State) : Answer :=
  match indexOf 512 (field16 body 0) with
  | none => refusedWith .badArgument s
  | some r =>
    if 1 < byteAt body 2 then refusedWith .badArgument s
    else match s.record r with
      | none => refusedWith .notFound s
      | some _ =>
        if byteAt body 2 = 0 then ok (setStandingOf r 0 .good s)
        else ok (s |> setStandingOf r Config.faultMax .barred |> barRecord r)

/-- LOAD-CLASS: the fields, then the recomputation of the class written (R56, R57). -/
def loadClass (body : List Byte) (s : State) : Answer :=
  match indexOf 8 (byteAt body 0) with
  | none => refusedWith .badArgument s
  | some k =>
    if 1 < byteAt body 1 then refusedWith .badArgument s
    else
      let x := { s.classRecord k with
        privacy := byteAt body 1 == 1
        bandStart := min (field16 body 2) 1439
        bandEnd := min (field16 body 4) 1439 }
      ok (s.withClass k x |> recomputeBand k)

/-- LOAD-VISITOR-RULE (R62). -/
def loadVisitorRule (body : List Byte) (s : State) : Answer :=
  match indexOf 8 (byteAt body 0), indexOf 8 (byteAt body 6) with
  | some v, some k =>
    let pattern : ExtensionNumber := BitVec.ofNat 24 (field24 body 2)
    if 1 < byteAt body 1 ∨ legalPattern pattern = false ∨ 1 < byteAt body 5 then refusedWith .badArgument s
    else
      let rule : VisitorRule :=
        { inUse := byteAt body 1 == 1, pattern := pattern, mask := if byteAt body 5 = 0 then .a else .b, cls := k }
      ok { s with visitors := { s.visitors with rules := s.visitors.rules.set v rule } }
  | _, _ => refusedWith .badArgument s

/-- SET-VISITOR-MASKS (R62). -/
def setVisitorMasks (body : List Byte) (s : State) : Answer :=
  if 0x3F < byteAt body 0 ∨ 0x3F < byteAt body 1 then refusedWith .badArgument s
  else
    ok { s with visitors := { s.visitors with
      maskA := BitVec.ofNat 6 (byteAt body 0), maskB := BitVec.ofNat 6 (byteAt body 1) } }

/-! ### The commands -/

/-- LOAD_ENTRY. -/
def execLoadEntry (body : List Byte) (s : State) : Host.Outcome State Fault Refusal :=
  whileRunning (request 0x20 20 loadEntry body) s

/-- DELETE_ENTRY. -/
def execDeleteEntry (body : List Byte) (s : State) : Host.Outcome State Fault Refusal :=
  whileRunning (request 0x21 2 deleteEntry body) s

/-- READ_DIRECTORY. -/
def execReadDirectory (body : List Byte) (s : State) : Host.Outcome State Fault Refusal :=
  whileRunning (request 0x22 3 readDirectory body) s

/-- SET_STANDING. -/
def execSetStanding (body : List Byte) (s : State) : Host.Outcome State Fault Refusal :=
  whileRunning (request 0x23 3 setStanding body) s

/-- LOAD_CLASS. -/
def execLoadClass (body : List Byte) (s : State) : Host.Outcome State Fault Refusal :=
  whileRunning (request 0x24 6 loadClass body) s

/-- LOAD_VISITOR_RULE. -/
def execLoadVisitorRule (body : List Byte) (s : State) : Host.Outcome State Fault Refusal :=
  whileRunning (request 0x25 7 loadVisitorRule body) s

/-- SET_VISITOR_MASKS. -/
def execSetVisitorMasks (body : List Byte) (s : State) : Host.Outcome State Fault Refusal :=
  whileRunning (request 0x26 2 setVisitorMasks body) s

end Sys2Proof.Machine
end

