-- ==== Sys2Proof/Machine/EngineSteps.lean ====
section
/-! DEFINITION. The Transform Engine's steps (05_transform_engine): the round of a frame, the selection and load,
and the delivery of a VERIFY. The deliveries of keys stand with the Privacy Unit. -/

namespace Sys2Proof.Machine

/-- The selection level of a job's kind (R94). -/
def Engine.level (e : Engine) : Job → Nat
  | .verify _ _ _ => e.verifyLevel
  | .txKey _ _ _ _ => e.txLevel
  | .rxKey _ _ _ _ => e.rxLevel

/-- The requests a selection may take (R90). -/
def Engine.candidates (e : Engine) : List Request := e.requests.filter fun q => q.eligible && !q.inFlight

/-- The eligible request of lowest level, earliest posted within it (R90). -/
def Engine.selected (e : Engine) : Option Request :=
  e.candidates.find? fun q => e.candidates.all fun p => decide (e.level q.job ≤ e.level p.job)

/-- The key of all-zero words, standing where a waiting request's material is gone; R88 keeps it in place, so no run
reaches it (DESIGN CHOICE, log entry 17). -/
def noKey : Key := { k0 := 0, k1 := 0, k2 := 0, k3 := 0 }

/-- The operation that a load captures for a DERIVE (R85, R88). -/
def loadDerive (j : Job) (site : SiteId) (nonce : BitVec 24) (epoch : Nibble) (s : State) : Operation where
  job := j
  key := (s.sites[site].map Site.key).getD noKey
  word2 := some (deriveInput nonce epoch 2)
  first := none
  a := (deriveInput nonce epoch 1).extractLsb' 16 16
  b := (deriveInput nonce epoch 1).extractLsb' 0 16
  round := 0
  complete := false

/-- The operation that a load captures (R88). -/
def loadJob (j : Job) (s : State) : Operation :=
  match j with
  | .verify i r _ =>
    let input := (s.slot i).challenge.getD 0
    { job := j, key := ((s.record r).map Record.secret).getD noKey, word2 := none, first := none,
      a := input.extractLsb' 16 16, b := input.extractLsb' 0 16, round := 0, complete := false }
  | .txKey _ site nonce epoch => loadDerive j site nonce epoch s
  | .rxKey _ site nonce epoch => loadDerive j site nonce epoch s

/-- The selection of an IDLE engine (R87, R90). -/
def engineSelect (s : State) : State :=
  if s.engine.phase = .idle then
    match s.engine.selected with
    | none => s
    | some q => s.withEngine { s.engine with
        phase := .load
        operation := some (loadJob q.job s)
        requests := s.engine.requests.map fun p => if p.job = q.job then { p with inFlight := true } else p }
  else s

/-- One round of the operation in flight (R87). -/
def Operation.runRound (op : Operation) : Operation :=
  let ab := roundStep (op.key.word op.round) (op.a, op.b)
  if op.round < 7 then { op with a := ab.1, b := ab.2, round := op.round + 1 }
  else match op.word2, op.first with
    | some w, none =>
      { op with first := some (ab.1 ++ ab.2), a := w.extractLsb' 16 16, b := w.extractLsb' 0 16, round := 0 }
    | _, _ => { op with a := ab.1, b := ab.2, complete := true }

/-- The engine's part of a frame's start (R87, R90). -/
def Engine.beginFrame (e : Engine) : Engine :=
  let aged := { e with requests := e.requests.map fun q => { q with eligible := true } }
  if e.toRest then { aged with phase := .rest, toRest := false }
  else match e.phase with
    | .idle => aged
    | .rest => { aged with phase := .idle }
    | .load | .round => { aged with phase := .round, operation := e.operation.map Operation.runRound }

/-- The request of the completed operation leaves the list and the engine goes to REST (R87, R93). -/
def finishOperation (j : Job) (s : State) : State :=
  s.withEngine { s.engine with
    requests := s.engine.requests.filter fun q => q.job != j
    operation := none
    toRest := true }

/-- The completed operation, when one has completed in this frame (R87). -/
def completed (s : State) : Option Operation := s.engine.operation.filter Operation.complete

/-- The output of the last run (R83). -/
def Operation.output (op : Operation) : BitVec 32 := op.a ++ op.b

/-- The call key words of a completed DERIVE (R85). -/
def Operation.keyWords (op : Operation) : KeyWords := callWords (op.first.getD 0) op.output

/-- The delivery of a completed VERIFY (R70, R93). -/
def verifyDelivery (s : State) : State :=
  match completed s with
  | some op => match op.job with
    | .verify i r answer => s |> finishOperation op.job |> judgeVerify i r answer op.output
    | _ => s
  | none => s

/-! ### The commands -/

/-- ENGINE_SELECT. -/
def execEngineSelect (s : State) : Host.Outcome State Fault Refusal := whileRunning engineSelect s

/-- VERIFY_DELIVERY. -/
def execVerifyDelivery (s : State) : Host.Outcome State Fault Refusal := whileRunning verifyDelivery s

end Sys2Proof.Machine
end

