-- ==== Sys2Proof/Machine/Handset.lean ====
section
/-! DEFINITION. The Handset Message Unit (03_handset_message_channel): the receive assembler on the aux nibbles,
the messages a handset sends, and the transmitter of a slot's queue. -/

namespace Sys2Proof.Machine

/-- A line-side frame is delivered to the line-to-exchange path in this frame (R9, R10, R15, R37). -/
def lineDelivers (s : State) : Bool := s.highway.timing == .locked && !s.highway.entered && !s.highway.lossDue

/-- The slot is EXTENSION, and was at the frame's start: a new kind governs the aux nibble from the next frame
(R34, R37). -/
def Slot.takesNibbles (r : Slot) : Bool := r.kind == .extension && (r.gate == .closed || r.gate == .passing)

/-- The assembler of slot `i` returns to HUNT with no previous nibble (R39). -/
def huntAssembler (i : SlotId) (s : State) : State := onSlot i (fun r => { r with assembler := .hunt none }) s

/-- A discarded message raises the garbled count (R40, R41, R43). -/
def discardGarbled (i : SlotId) (s : State) : State :=
  onSlot i (fun r => { r with assembler := .hunt none, garbled := raise Config.garbledMax r.garbled }) s

/-- A STATUS-QUERY is answered from the slot record (R45). -/
def answerStatus (i : SlotId) (s : State) : State := enqueue i (statusMessage (s.slot i)) s

/-- A complete message acts by its type and length (R43). -/
def actOnMessage (i : SlotId) (type : Byte) (body : List Byte) (s : State) : State :=
  if type = 0x11 then
    if body.length = 9 then
      takeSignOn i (BitVec.ofNat 24 (field24 body 0)) (BitVec.ofNat 48 (field48 body 3)) (huntAssembler i s)
    else discardGarbled i s
  else if type = 0x12 then
    if body.length = 4 then
      takeResponse i (BitVec.ofNat 32 (field16 body 0 * 65536 + field16 body 2)) (huntAssembler i s)
    else discardGarbled i s
  else if type = 0x13 then
    if body.length = 0 then takeSignOff i (huntAssembler i s) else discardGarbled i s
  else if type = 0x14 then
    if body.length = 0 then answerStatus i (huntAssembler i s) else discardGarbled i s
  else huntAssembler i s

/-- The assembler takes one nibble (R39 to R41). -/
def takeNibble (i : SlotId) (x : Nibble) (s : State) : State :=
  let go (a : Assembler) : State := onSlot i (fun r => { r with assembler := a }) s
  match (s.slot i).assembler with
  | .hunt previous => if previous = some 0xA ∧ x = 5 then go (.length none) else go (.hunt (some x))
  | .length none => go (.length (some x))
  | .length (some h) =>
    let n := (nibblesByte h x).toNat
    if 1 ≤ n ∧ n ≤ Config.handsetLengthMax then go (.body n [] none (byte n)) else discardGarbled i s
  | .body n content none sum => go (.body n content (some x) sum)
  | .body n content (some h) sum =>
    let b := nibblesByte h x
    let taken := content ++ [b]
    if n ≤ taken.length then go (.check taken (sum + b) none) else go (.body n taken none (sum + b))
  | .check content sum none => go (.check content sum (some x))
  | .check content sum (some h) =>
    if sum + nibblesByte h x = 0 then actOnMessage i (content.headD 0) content.tail s else discardGarbled i s

/-- A message completes at slot `i` and then acts: only on an EXTENSION slot of a frame that delivers (R37). DESIGN
CHOICE (log entry 6): the command stands for the message's last nibble, and leaves the assembler in HUNT. -/
def onArrival (i : SlotId) (f : State → State) (s : State) : State :=
  if (s.slot i).takesNibbles = true ∧ lineDelivers s = true then f (huntAssembler i s) else s

/-! ### Transmitter -/

/-- The nibble of a message at a position. -/
def messageNibble (m : HandsetMessage) (k : Nat) : Nibble := (handsetNibbles m).getD k 0

/-- The nibbles of a message, 2 × (L + 3) (R18). -/
def messageLength (m : HandsetMessage) : Nat := 2 * (m.body.length + 4)

/-- The transmitter's part of a frame's start (R49). -/
def Slot.beginTransmit (r : Slot) : Slot :=
  match r.kind, r.transmitter with
  | .extension, .idle => { r with auxOut := 0, startDue := !r.txQueue.isEmpty }
  | .extension, .sending k =>
    { r with
      auxOut := (r.txQueue.head?.map (messageNibble · k)).getD 0
      transmitter := .sending (k + 1), startDue := false }
  | .extension, .gap => { r with auxOut := 0, transmitter := .idle, startDue := false }
  | _, _ => { r with auxOut := 0, startDue := false }

/-- An IDLE transmitter begins its head message, when that is due (R49). -/
def messageStart (i : SlotId) (s : State) : State :=
  let r := s.slot i
  match r.startDue, r.transmitter, r.txQueue with
  | true, .idle, m :: _ =>
    onSlot i (fun r => { r with transmitter := .sending 1, auxOut := messageNibble m 0, startDue := false }) s
  | _, _, _ => s

/-- The head message leaves the queue once its last nibble has been given (R49). -/
def messageSent (i : SlotId) (s : State) : State :=
  let r := s.slot i
  match r.transmitter, r.txQueue with
  | .sending k, m :: rest =>
    if messageLength m ≤ k then onSlot i (fun r => { r with transmitter := .gap, txQueue := rest }) s else s
  | _, _ => s

/-! ### The commands -/

/-- SIGN_ON. -/
def execSignOn (i : SlotId) (n : ExtensionNumber) (serial : BitVec 48) (s : State) : Host.Outcome State Fault Refusal :=
  whileRunning (onArrival i (takeSignOn i n serial)) s

/-- RESPONSE. -/
def execResponse (i : SlotId) (answer : BitVec 32) (s : State) : Host.Outcome State Fault Refusal :=
  whileRunning (onArrival i (takeResponse i answer)) s

/-- SIGN_OFF. -/
def execSignOff (i : SlotId) (s : State) : Host.Outcome State Fault Refusal :=
  whileRunning (onArrival i (takeSignOff i)) s

/-- STATUS_QUERY. -/
def execStatusQuery (i : SlotId) (s : State) : Host.Outcome State Fault Refusal :=
  whileRunning (onArrival i (answerStatus i)) s

/-- GARBLED_MESSAGE. -/
def execGarbledMessage (i : SlotId) (s : State) : Host.Outcome State Fault Refusal :=
  whileRunning (onArrival i (discardGarbled i)) s

/-- UNKNOWN_HANDSET_MESSAGE: ignored, whatever its type (R43; DESIGN CHOICE, log entry 18). -/
def execUnknownHandsetMessage (i : SlotId) (_type : Byte) (s : State) : Host.Outcome State Fault Refusal :=
  whileRunning (onArrival i id) s

/-- HANDSET_MESSAGE_START. -/
def execHandsetMessageStart (i : SlotId) (s : State) : Host.Outcome State Fault Refusal := whileRunning (messageStart i) s

/-- HANDSET_MESSAGE_SENT. -/
def execHandsetMessageSent (i : SlotId) (s : State) : Host.Outcome State Fault Refusal := whileRunning (messageSent i) s

end Sys2Proof.Machine
end

