-- ==== Sys2Proof/Machine/Privacy.lean ====
section
/-! DEFINITION. The Privacy Unit's steps: the delivery of call keys, the scrambler at a block boundary
(07_block_scrambling), the descrambler's marker search and judgement (08_descrambler_synchronisation), and the
guards and timers that close a context (06_privacy_contexts_and_site_keys). -/

namespace Sys2Proof.Machine

/-! ### Scrambler -/

/-- A delivered TX-KEY at the scrambler (R122). -/
def Scrambler.takeKey (w : KeyWords) (sc : Scrambler) : Scrambler :=
  if sc.state = .keying ∨ sc.state = .rekeying then
    { sc with next := sc.next.map fun n => { n with words := some w, fresh := true } }
  else sc

/-- The delivery of a completed TX-KEY (R93, R122). -/
def txKeyDelivery (s : State) : State :=
  match completed s with
  | some op => match op.job with
    | .txKey c _ _ _ =>
      s |> finishOperation op.job
        |> onContext c (fun x => { x with scrambler := x.scrambler.takeKey op.keyWords })
    | _ => s
  | none => s

/-- The next key is DELIVERED and this boundary acts on it (R122). -/
def Scrambler.nextReady (sc : Scrambler) : Bool := sc.next.any fun n => n.words.isSome && !n.fresh

/-- The marker of both CLEAR blocks of a close (R129). -/
def Scrambler.clearMarker (sc : Scrambler) : Marker where
  kind := .clear
  epoch := (sc.current.map CallKey.epoch).getD 0
  counter := 0xFFFF
  nonce := (sc.current.map CallKey.nonce).getD 0
  countdown := 0xF

/-- The scrambler `x` replaced in context `c`, its boundary taken. -/
def boundaryTaken (c : ContextId) (sc : Scrambler) (s : State) : State :=
  onContext c (fun x => { x with scrambler := sc, boundaryDue := false }) s

/-- A boundary in KEYING (R106, R123). -/
def keyingBoundary (c : ContextId) (x : Context) (s : State) : State :=
  let sc := x.scrambler
  if sc.nextReady then
    s |> onContext c (fun y => { y with
          phase := .opened, boundaryDue := false, scrambler := { sc.switchKey with emission := .idle } })
      |> testPrivacy c
  else boundaryTaken c { sc with emission := .idle } s

/-- A boundary in RUNNING, with the counter trigger (R115, R124). -/
def runningBoundary (c : ContextId) (x : Context) (s : State) : State :=
  let y := x.assignBlock
  let t := s.withContext c (some y)
  if y.scrambler.last = some Config.rekeyCounter then startRekey c t else t

/-- A boundary in REKEYING (R131, R133). -/
def rekeyingBoundary (c : ContextId) (x : Context) (s : State) : State :=
  let sc := x.scrambler
  if sc.last = some 0xFFFF then
    s |> boundaryTaken c sc |> closeContext c .exhausted
  else if sc.nextReady ∧ sc.nextCounter.toNat ≤ Config.announceLast.toNat then
    s |> boundaryTaken c (sc.emitAnnounce x.profile 3) |> testPrivacy c
  else boundaryTaken c (sc.emitData x.profile) s

/-- A boundary in ANNOUNCING, with the test of R107 after the key switch (R132). -/
def announcingBoundary (c : ContextId) (x : Context) (s : State) : State :=
  let y := x.assignBlock
  let t := s.withContext c (some y)
  if y.scrambler.state = .running then testPrivacy c t else t

/-- A boundary in CLEARING: the first or the second CLEAR block begins (R134). -/
def clearingBoundary (c : ContextId) (x : Context) (s : State) : State :=
  let sc := x.scrambler
  boundaryTaken c { sc with
    clearCount := min (sc.clearCount + 1) 2
    emission := .block sc.clearMarker (List.replicate x.profile.blockLength 0) } s

/-- A block boundary, when one is due (R121). -/
def blockBoundary (c : ContextId) (s : State) : State :=
  match s.context c with
  | none => s
  | some x =>
    if x.boundaryDue then
      match x.scrambler.state with
      | .keying => keyingBoundary c x s
      | .running => runningBoundary c x s
      | .rekeying => rekeyingBoundary c x s
      | .announcing => announcingBoundary c x s
      | .clearing => clearingBoundary c x s
      | .stopped => s
    else s

/-- The interval trigger, when it is due (R115). -/
def rekeyIntervalExpiry (c : ContextId) (s : State) : State :=
  match s.context c with
  | none => s
  | some x =>
    if x.profile.rekeyInterval ≠ 0 ∧ x.profile.rekeyInterval * Config.framesPerMinute ≤ x.rekeyElapsed then
      startRekey c s
    else s

/-- The last frame of the second CLEAR block frees the context (R109). -/
def contextFree (c : ContextId) (s : State) : State :=
  match s.context c with
  | none => s
  | some x =>
    if x.phase = .closing ∧ x.scrambler.clearCount = 2 ∧ x.boundaryDue = false ∧
        x.offset + 1 = x.profile.blockLength then freeContext c s
    else s

/-! ### Descrambler: taking frames -/

/-- The offset after this frame in a block of `n` frames (R138). -/
def nextOffset (n k : Nat) : Nat := if k + 1 < n then k + 1 else 0

/-- The window with one more pair (R138). -/
def pushWindow (w : List (Nibble × Sample)) (p : Nibble × Sample) : List (Nibble × Sample) :=
  let longer := w ++ [p]
  longer.drop (longer.length - Config.windowSize)

/-- The descrambler takes the pair of a frame (R138, R152). -/
def Descrambler.take (n : Nat) (w : Word) (d : Descrambler) : Descrambler :=
  let seen := { d with window := pushWindow d.window (auxOf w, sampleOf w) }
  match d.offset with
  | none => seen
  | some k =>
    let o := nextOffset n k
    { seen with
      offset := some o
      buffer := if o = 0 then [sampleOf w] else d.buffer ++ [sampleOf w]
      restored := if o = 0 then d.upcoming else d.restored
      upcoming := if o = 0 then none else d.upcoming
      markerDue := decide (o = Config.markerOffset)
      restoreDue := decide (o + 1 = n) }

/-- A context's descrambler takes its tie slot's word; a halted one takes nothing (R108, R138). -/
def Context.takeWord (ws : SlotWords) (x : Context) : Context :=
  if x.phase = .closing then x
  else { x with descrambler := x.descrambler.take x.profile.blockLength (ws.wordOf x.tie) }

/-! ### Descrambler: states -/

/-- An entry to HUNT (R141), with the hunt timer's restart from SYNC or FLYWHEEL (R142). -/
def Descrambler.enterHunt (d : Descrambler) : Descrambler :=
  { d with
    state := .hunt
    window := []
    offset := none
    buffer := []
    accepted := none
    restored := none
    upcoming := none
    expected := none
    switchDue := false
    sighted := false
    good := 0
    miss := 0
    hunt := if d.state = .sync ∨ d.state = .flywheel then some 0 else d.hunt
    markerDue := false
    restoreDue := false }

/-- The descrambler is in SYNC or FLYWHEEL. -/
def Descrambler.synchronised (d : Descrambler) : Bool := d.state == .sync || d.state == .flywheel

/-- What a slip, a realignment or an entry to LOST does to a context's descrambler (R10, R14, R15). -/
def Context.slipped (x : Context) : Context :=
  if x.phase = .closing ∨ x.descrambler.state = .hunt then x
  else { x with
    syncLosses := if x.descrambler.synchronised then raise 255 x.syncLosses else x.syncLosses
    descrambler := x.descrambler.enterHunt }

/-- The descrambler of context `c` changed by `f`. -/
def onDescrambler (c : ContextId) (f : Descrambler → Descrambler) (s : State) : State :=
  onContext c (fun x => { x with descrambler := f x.descrambler }) s

/-- The block now arriving is accepted under the held key with a counter (R152). -/
def Descrambler.accept (counter : Word) (d : Descrambler) : Descrambler :=
  { d with accepted := d.held.map fun k => { key := k, counter := counter } }

/-- An entry to SYNC accepts the block and stops the hunt timer (R142, R149). -/
def enterSync (c : ContextId) (counter : Word) (s : State) : State :=
  s |> onDescrambler c (fun d => { d.accept counter with state := .sync, miss := 0, hunt := none })
    |> testPrivacy c

/-- An entry to PRESYNC with a good count of 1, passing on to SYNC at a presync count of 1 (R143, R149). -/
def enterPresync (c : ContextId) (counter : Word) (s : State) : State :=
  match s.context c with
  | none => s
  | some x =>
    let t := onDescrambler c (fun d => { d with state := .presync, good := 1 }) s
    if x.profile.presync ≤ 1 then enterSync c counter t else t

/-- An entry to KEYWAIT from HUNT (R143, R144). -/
def enterKeywait (c : ContextId) (s : State) : State :=
  onDescrambler c (fun d => { d with state := .keywait, miss := 0, sighted := false }) s

/-! ### Descrambler: keys -/

/-- A DATA marker names a call key (R139). -/
def Marker.namesKey (m : Marker) (k : CallKey) : Bool :=
  m.kind == .data && m.nonce == k.nonce && m.epoch == k.epoch

/-- An ANNOUNCE marker names a call key as current (R139). -/
def Marker.namesCurrent (m : Marker) (k : CallKey) : Bool := m.kind == .announce && m.epoch == k.epoch

/-- A DATA marker names the pending key (R139). -/
def Marker.namesPending (m : Marker) (p : PendingKey) : Bool :=
  m.kind == .data && m.nonce == p.nonce && m.epoch == p.epoch

/-- The marker names the held key, or names it as current (R139). -/
def Descrambler.named (d : Descrambler) (m : Marker) : Bool :=
  d.held.any fun k => m.namesKey k || m.namesCurrent k

/-- The marker agrees with the held key (R139). -/
def Descrambler.agrees (d : Descrambler) (m : Marker) : Bool := d.named m && d.expected == some m.counter

/-- The pending key is replaced, its RX-KEY withdrawn, and the new key's RX-KEY posted (R143, R145). -/
def seekKey (c : ContextId) (nonce : BitVec 24) (epoch : Nibble) (countdown : Option Nat) (s : State) : State :=
  match s.context c with
  | none => s
  | some x =>
    s |> withdraw (Job.isRxOf c)
      |> onDescrambler c (fun d => { d with
          pending := some { nonce := nonce, epoch := epoch, countdown := countdown, words := none }
          sighted := d.pending.isNone && d.sighted })
      |> postJob (.rxKey c x.site nonce epoch)

/-- The descrambler takes an announcement (R145). -/
def takeAnnouncement (c : ContextId) (m : Marker) (s : State) : State :=
  let known := (s.context c).any fun x => x.descrambler.pending.any fun p => p.nonce == m.nonce && p.epoch == m.epoch + 1
  if known then
    onDescrambler c (fun d => { d with
      pending := d.pending.map fun p => { p with countdown := some m.countdown.toNat } }) s
  else seekKey c m.nonce (m.epoch + 1) (some m.countdown.toNat) s

/-- A sought pending key is discarded and its RX-KEY withdrawn (R143, R146). -/
def dropSought (c : ContextId) (s : State) : State :=
  let sought := (s.context c).any fun x => x.descrambler.pending.any fun p => p.countdown.isNone
  if sought then s |> withdraw (Job.isRxOf c) |> onDescrambler c (fun d => { d with pending := none }) else s

/-- A DATA marker has named the pending key: it is sought now, and held if it is DELIVERED (R143, R146). -/
def Descrambler.namePending (d : Descrambler) : Descrambler :=
  match d.pending with
  | some { nonce := n, epoch := e, countdown := _, words := some w } =>
    { d with held := some { nonce := n, epoch := e, words := w }, pending := none }
  | some p => { d with pending := some { p with countdown := none } }
  | none => d

/-! ### Descrambler: hunting -/

/-- The marker in a full window (R138, R143). -/
def Descrambler.windowMarker (d : Descrambler) : Option Marker := readMarker (d.window.map Prod.fst)

/-- The phase fixed by a marker found in the window (R143, R144). The received blocks keep this phase, and the
context's own block boundaries are those of its scrambler alone (step 4 of R105; DEDUCED, log entry 26). -/
def Descrambler.fixPhase (m : Marker) (d : Descrambler) : Descrambler :=
  let switching := m.kind == .announce && m.countdown == 0
  { d with
    offset := some Config.markerOffset
    buffer := d.window.map Prod.snd
    expected := some (if switching then 0 else m.counter + 1)
    switchDue := switching }

/-- A DATA marker found in HUNT (R143). -/
def huntData (c : ContextId) (m : Marker) (x : Context) (s : State) : State :=
  let d := x.descrambler
  let fixed := onDescrambler c (Descrambler.fixPhase m) s
  if d.held.any m.namesKey then fixed |> dropSought c |> enterPresync c m.counter
  else if d.pending.any m.namesPending then
    let named := onDescrambler c Descrambler.namePending fixed
    if d.pending.any (fun p => p.words.isSome) then enterPresync c m.counter named else enterKeywait c named
  else fixed |> seekKey c m.nonce m.epoch none |> enterKeywait c

/-- An ANNOUNCE marker found in HUNT (R144). -/
def huntAnnounce (c : ContextId) (m : Marker) (x : Context) (s : State) : State :=
  let taken := s |> onDescrambler c (Descrambler.fixPhase m) |> takeAnnouncement c m
  if x.descrambler.held.any m.namesCurrent then enterPresync c m.counter taken else enterKeywait c taken

/-- A valid marker found by a descrambler in HUNT (R140, R143, R144); none is found while the line side is not LOCKED
(R9), whatever the window still holds of the frames before the loss. -/
def huntMarkerFound (c : ContextId) (s : State) : State :=
  match s.context c with
  | none => s
  | some x =>
    if s.highway.timing = .locked ∧ x.phase ≠ .closing ∧ x.descrambler.state = .hunt then
      match x.descrambler.windowMarker with
      | none => s
      | some m => match m.kind with
        | .clear => closeContext c .farClear s
        | .data => huntData c m x s
        | .announce => huntAnnounce c m x s
    else s

/-! ### Descrambler: following the peer -/

/-- The key switch at a marker frame, when the switch-due flag is set (R148). -/
def Descrambler.keySwitch (d : Descrambler) : Descrambler :=
  if d.switchDue then
    match d.pending with
    | some { nonce := n, epoch := e, countdown := _, words := some w } =>
      { d with switchDue := false, held := some { nonce := n, epoch := e, words := w }, pending := none }
    | some p =>
      { d with
        switchDue := false
        held := none
        pending := some { p with countdown := none }
        sighted := false
        state := .keywait
        miss := if d.state = .keywait then d.miss else 0
        hunt := if d.state = .sync ∨ d.state = .flywheel then some 0 else d.hunt
        accepted := none
        restored := none
        upcoming := none }
    | none => { d with switchDue := false }
  else d

/-- An announcement taken from a marker that is an ANNOUNCE. -/
def announceIf (c : ContextId) (m : Marker) (s : State) : State :=
  if m.kind = .announce then takeAnnouncement c m s else s

/-- A loss of sync (R151). -/
def loseSync (c : ContextId) (s : State) : State :=
  match s.context c with
  | none => s
  | some x =>
    let lost := s
      |> onContext c (fun y => { y with
          syncLosses := raise 255 y.syncLosses, descrambler := y.descrambler.enterHunt })
      |> post .privacyLost (some x.tie) (some c) (some x.index) 0
    if x.reached then
      lost |> enqueue x.ext (noticeMessage .privacyLost) |> requestFunction .privacyLost x.ext
    else lost

/-- A miss in KEYWAIT (R146). -/
def Descrambler.missKeywait (d : Descrambler) : Descrambler :=
  if Config.keywaitMisses ≤ d.miss + 1 then d.enterHunt else { d with miss := d.miss + 1 }

/-- A marker frame judged in KEYWAIT (R146). -/
def judgeKeywait (c : ContextId) (d : Descrambler) (m : Option Marker) (s : State) : State :=
  match m with
  | none => onDescrambler c Descrambler.missKeywait s
  | some m =>
    if m.kind = .clear ∨ d.expected ≠ some m.counter then onDescrambler c Descrambler.missKeywait s
    else if d.named m then s |> announceIf c m |> dropSought c |> enterPresync c m.counter
    else if m.kind = .announce then s |> takeAnnouncement c m |> onDescrambler c (fun d => { d with miss := 0 })
    else if d.pending.any m.namesPending then
      let named := onDescrambler c Descrambler.namePending s
      if d.pending.any (fun p => p.words.isSome) then enterPresync c m.counter named
      else onDescrambler c (fun d => { d with sighted := true, miss := 0 }) named
    else onDescrambler c Descrambler.missKeywait s

/-- The marker agrees, when there is one. -/
def Descrambler.agreesWith (d : Descrambler) (m : Option Marker) : Option Marker := m.filter d.agrees

/-- A marker frame judged in PRESYNC (R149). -/
def judgePresync (c : ContextId) (x : Context) (d : Descrambler) (m : Option Marker) (s : State) : State :=
  match d.agreesWith m with
  | none => onDescrambler c Descrambler.enterHunt s
  | some m =>
    let counted := s |> onDescrambler c (fun d => { d with good := d.good + 1 }) |> announceIf c m
    if x.profile.presync ≤ d.good + 1 then enterSync c m.counter counted else counted

/-- A miss in SYNC or FLYWHEEL raises the miss count, and is a loss of sync at the flywheel limit (R150, R151). -/
def missFollowing (c : ContextId) (x : Context) (d : Descrambler) (s : State) : State :=
  let n := if d.state = .sync then 1 else d.miss + 1
  if x.profile.flywheel ≤ n then loseSync c s
  else onDescrambler c (fun d => { d.accept (d.expected.getD 0) with state := .flywheel, miss := n }) s

/-- A marker frame judged in SYNC (R150). -/
def judgeSync (c : ContextId) (x : Context) (d : Descrambler) (m : Option Marker) (s : State) : State :=
  match d.agreesWith m with
  | none => missFollowing c x d s
  | some m => s |> onDescrambler c (Descrambler.accept m.counter) |> announceIf c m

/-- A marker frame judged in FLYWHEEL (R151). -/
def judgeFlywheel (c : ContextId) (x : Context) (d : Descrambler) (m : Option Marker) (s : State) : State :=
  match d.agreesWith m with
  | none => missFollowing c x d s
  | some m => s |> announceIf c m |> enterSync c m.counter

/-- The descrambler before and after a judgement took an announcement of countdown 0 from this marker (R148). -/
def tookSwitch (d : Descrambler) (m : Option Marker) : Bool :=
  m.any fun m => m.kind == .announce && m.countdown == 0 &&
    (if d.state = .keywait then d.expected == some m.counter else d.agrees m)

/-- The expected C brought up to date after the judgement, while the phase is known (R148). -/
def Descrambler.advanceExpected (switching : Bool) (d : Descrambler) : Descrambler :=
  if d.offset.isNone then d
  else if switching then { d with expected := some 0, switchDue := true }
  else { d with expected := d.expected.map (· + 1) }

/-- A marker judged by the descrambler's state after any key switch (R146, R149 to R151). -/
def judgeMarker (c : ContextId) (x : Context) (d : Descrambler) (m : Option Marker) (s : State) : State :=
  match d.state with
  | .hunt => s
  | .keywait => judgeKeywait c d m s
  | .presync => judgePresync c x d m s
  | .sync => judgeSync c x d m s
  | .flywheel => judgeFlywheel c x d m s

/-- A marker frame, when it is due (R148). -/
def markerFrame (c : ContextId) (s : State) : State :=
  match s.context c with
  | none => s
  | some x =>
    if x.descrambler.markerDue then
      let d := { x.descrambler.keySwitch with markerDue := false }
      let m := d.windowMarker
      let switched := onDescrambler c (fun _ => d) s
      if m.any (fun m => m.kind == .clear) then closeContext c .farClear switched
      else switched |> judgeMarker c x d m |> onDescrambler c (Descrambler.advanceExpected (tookSwitch d m))
    else s

/-- An accepted block is restored in the last frame of its reception (R152). -/
def Descrambler.restoreBlock (p : Profile) (d : Descrambler) : Descrambler :=
  match d.accepted with
  | none => { d with restoreDue := false }
  | some a =>
    { d with
      restoreDue := false
      accepted := none
      upcoming := some (restore p.segment p.masking a.key.words a.counter d.buffer) }

/-- The last frame of a received block, when it is due (R152). -/
def blockRestore (c : ContextId) (s : State) : State :=
  onContext c (fun x =>
    if x.descrambler.restoreDue then { x with descrambler := x.descrambler.restoreBlock x.profile } else x) s

/-- A delivered RX-KEY at the descrambler (R147). -/
def Descrambler.takeKey (nonce : BitVec 24) (epoch : Nibble) (w : KeyWords) (d : Descrambler) : Descrambler :=
  match d.pending with
  | none => d
  | some p =>
    if p.words.isSome ∨ p.nonce ≠ nonce ∨ p.epoch ≠ epoch then d
    else if p.countdown.isSome then { d with pending := some { p with words := some w } }
    else
      let holding := { d with held := some { nonce := nonce, epoch := epoch, words := w }, pending := none }
      if d.state = .keywait ∧ d.sighted = true then { holding with state := .presync, good := 0 }
      else holding

/-- The delivery of a completed RX-KEY (R93, R147). -/
def rxKeyDelivery (s : State) : State :=
  match completed s with
  | some op => match op.job with
    | .rxKey c _ nonce epoch =>
      s |> finishOperation op.job |> onDescrambler c (Descrambler.takeKey nonce epoch op.keyWords)
    | _ => s
  | none => s

/-! ### Guards -/

/-- The hunt timer's expiry, when it has reached the hunt limit (R142). -/
def huntTimeout (c : ContextId) (s : State) : State :=
  match s.context c with
  | none => s
  | some x =>
    if x.phase ≠ .closing ∧ x.descrambler.hunt.any (fun n => decide (x.profile.huntLimit ≤ n)) = true then
      closeContext c .noSync s
    else s

/-- The slot a clear guard comparison reads (R30). -/
def Context.guarded (x : Context) : GuardSide → SlotId
  | .extension => x.ext
  | .tie => x.tie

/-- The cause of a clear guard close (R30). -/
def guardCause : GuardSide → CloseCause
  | .extension => .extensionIdle
  | .tie => .tieIdle

/-- A clear guard comparison, from the frame after the open (R30, R105). -/
def clearGuardExpiry (c : ContextId) (side : GuardSide) (s : State) : State :=
  match s.context c with
  | none => s
  | some x =>
    let i := x.guarded side
    if x.phase ≠ .closing ∧ x.elapsed ≠ 0 ∧ idleUpToDate i s = true ∧ x.profile.clearGuard ≤ (s.slot i).idle then
      closeContext c (guardCause side) s
    else s

/-! ### The commands -/

/-- TX_KEY_DELIVERY. -/
def execTxKeyDelivery (s : State) : Host.Outcome State Fault Refusal := whileRunning txKeyDelivery s

/-- RX_KEY_DELIVERY. -/
def execRxKeyDelivery (s : State) : Host.Outcome State Fault Refusal := whileRunning rxKeyDelivery s

/-- BLOCK_BOUNDARY. -/
def execBlockBoundary (c : ContextId) (s : State) : Host.Outcome State Fault Refusal := whileRunning (blockBoundary c) s

/-- REKEY_INTERVAL_EXPIRY. -/
def execRekeyIntervalExpiry (c : ContextId) (s : State) : Host.Outcome State Fault Refusal :=
  whileRunning (rekeyIntervalExpiry c) s

/-- CONTEXT_FREE. -/
def execContextFree (c : ContextId) (s : State) : Host.Outcome State Fault Refusal := whileRunning (contextFree c) s

/-- HUNT_MARKER_FOUND. -/
def execHuntMarkerFound (c : ContextId) (s : State) : Host.Outcome State Fault Refusal :=
  whileRunning (huntMarkerFound c) s

/-- MARKER_FRAME. -/
def execMarkerFrame (c : ContextId) (s : State) : Host.Outcome State Fault Refusal := whileRunning (markerFrame c) s

/-- BLOCK_RESTORE. -/
def execBlockRestore (c : ContextId) (s : State) : Host.Outcome State Fault Refusal := whileRunning (blockRestore c) s

/-- HUNT_TIMEOUT. -/
def execHuntTimeout (c : ContextId) (s : State) : Host.Outcome State Fault Refusal := whileRunning (huntTimeout c) s

/-- CLEAR_GUARD_EXPIRY. -/
def execClearGuardExpiry (c : ContextId) (side : GuardSide) (s : State) : Host.Outcome State Fault Refusal :=
  whileRunning (clearGuardExpiry c side) s

end Sys2Proof.Machine
end

