-- ==== Sys2Proof/Machine/Line.lean ====
section
/-! DEFINITION. The line side in a frame (01_highways_and_frame_timing, 02_slot_table_and_line_supervision): the
pulse count, the elastic store and its slips, the persistence filter and idle duration, what the delivered words
reach, and the entries to LOCKED and LOST with the loss hold. -/

namespace Sys2Proof.Machine

/-! ### Elastic store -/

/-- The store takes in the frames of this exchange frame and delivers one (R13). With no frame to deliver it gives the
one delivered last; outside LOCKED it is left as it stood (DESIGN CHOICE, log entry 14). -/
def Highway.deliver (arrivals : List SlotWords) (h : Highway) : Option Slip × Highway :=
  let frames := h.store ++ arrivals
  let n := h.depth + arrivals.length
  if n = 0 then (some .again, { h with store := [], depth := 0, lineWords := h.delivered })
  else
    let slips := decide (4 ≤ n)
    let skipped := if slips then 1 else 0
    let out := frames.getD skipped h.delivered
    (if slips then some .drop else none,
      { h with store := frames.drop (skipped + 1), depth := min (n - 1) 2, delivered := out, lineWords := out })

/-- What a frame's pulse count leads to at the Highway Interface, with the slip it makes (R5 to R7, R13). A frame
without a pulse is judged by W as it stands, also when a SET-TIMERS of the same frame has written it (R8, R182; DESIGN
CHOICE, log entry 23). -/
def Highway.observe (arrivals : List SlotWords) (h : Highway) : Option Slip × Highway :=
  let seen := { h with observed := true, latest := arrivals.getLastD h.latest, lineWords := idleWords }
  let pulse := !arrivals.isEmpty
  let missed := raise Config.missRunMax h.missRun
  match h.timing with
  | .lost =>
    if pulse then (none, { seen with timing := .unstable, goodCount := 1, missRun := 0, lossHold := none })
    else (none, { seen with missRun := missed })
  | .unstable =>
    if pulse then
      let good := raise Config.lockCount h.goodCount
      (none, { seen with goodCount := good, missRun := 0, lockDue := decide (good = Config.lockCount) })
    else (none, { seen with goodCount := 0, missRun := missed, lossDue := decide (h.lossWindow ≤ missed) })
  | .locked =>
    if pulse then { seen with missRun := 0 }.deliver arrivals
    else if h.lossWindow ≤ missed then (none, { seen with missRun := missed, lossDue := true })
    else { seen with missRun := missed }.deliver arrivals

/-- LINE-STATE UNSTABLE is posted when a pulse ends LOST (R5). -/
def postUnstable (before : Timing) (s : State) : State :=
  if before = .lost ∧ s.highway.timing = .unstable then post .lineState none none none 0x01 s else s

/-- A slip or realignment: counted, posted, and acting on every descrambler (R14, R15). -/
def slip (k : Slip) (s : State) : State :=
  let counted := s.withHighway { s.highway with slipCount := raise Config.count16Max s.highway.slipCount }
  let posted := post .slip none none none k.code counted
  { posted with contexts := mapTable (Option.map Context.slipped) posted.contexts }

/-! ### Filter and idle duration -/

/-- The filter on one delivered line state code (R22). -/
def Slot.filter (x : Nibble) (r : Slot) : Slot :=
  if r.filterLength = 0 then { r with filtered := x, candidate := x, persistence := 0 }
  else if x = r.filtered then { r with candidate := x, persistence := 0 }
  else if x = r.candidate then
    { r with persistence := r.persistence + 1, changeDue := decide (8 * r.filterLength ≤ r.persistence + 1) }
  else { r with candidate := x, persistence := 1 }

/-- The idle duration brought up to date (R24). -/
def Slot.countIdle (r : Slot) : Slot :=
  { r with idle := if r.filtered = 0 then raise Config.count16Max r.idle else 0 }

/-- A slot's filter and idle duration in a frame; a change due completes both later (R22 to R24). A filter that a
SET-SLOT has set afresh in this frame acts from the next delivered frame (R34, R36; DEDUCED, log entry 20). -/
def Slot.superviseLine (delivers : Bool) (w : Word) (r : Slot) : Slot :=
  let acted := if delivers && !r.filterFresh then r.filter (lineStateOf w) else r
  if acted.changeDue then acted else acted.countIdle

/-- The candidate becomes the filtered code, when its count has reached 8N (R22). -/
def filteredCodeChange (i : SlotId) (s : State) : State :=
  if (s.slot i).changeDue then
    onSlot i (fun r =>
      Slot.countIdle { r with filtered := r.candidate, persistence := 0, changeDue := false }) s
  else s

/-! ### What the words of a frame reach -/

/-- Filters and idle durations of all slots (R22, R24). -/
def superviseSlots (s : State) : State :=
  { s with slots := ofTable fun i =>
      (s.slot i).superviseLine (lineDelivers s) (s.highway.lineWords.wordOf i) }

/-- The descramblers that `p` selects take their words (R138). -/
def takeWords (p : ContextId → Bool) (s : State) : State :=
  { s with
    contexts := ofTable fun c =>
      if p c then (s.context c).map (Context.takeWord s.highway.lineWords) else s.context c }

/-- The markers of context `c` in this frame are taken. -/
def judgeMarkers (c : ContextId) (s : State) : State := s |> markerFrame c |> huntMarkerFound c

/-- The assemblers of the EXTENSION slots take their nibbles, in ascending order of slot (R37; DESIGN CHOICE, log
entry 7). -/
def takeNibbles (s : State) : State :=
  if lineDelivers s then
    forEach slotIds (fun i t =>
      if (t.slot i).takesNibbles then takeNibble i (auxOf (s.highway.lineWords.wordOf i)) t else t) s
  else s

/-- A frame's pulse count and all that its words reach (R5, R13, R22, R24, R37, R138, R153). DESIGN CHOICE (log entries
8 and 9): it acts once in a frame, and a context of `judgedFirst` has its markers taken before the frame's slip. -/
def observeLine (arrivals : List SlotWords) (judgedFirst : List ContextId) (s : State) : State :=
  if s.highway.observed then s
  else
    let out := s.highway.observe arrivals
    let judged := s.withHighway out.2
      |> postUnstable s.highway.timing
      |> superviseSlots
      |> takeWords (judgedFirst.contains ·)
      |> forEach judgedFirst judgeMarkers
    (match out.1 with
      | some k => slip k judged
      | none => judged)
      |> takeWords (fun c => !judgedFirst.contains c)
      |> takeNibbles

/-! ### Entries and the loss hold -/

/-- The entry to LOCKED, when the good count has reached 64 in this frame (R6, R15). -/
def entryToLocked (s : State) : State :=
  if s.highway.lockDue then
    s.withHighway { s.highway with
        timing := .locked, lockDue := false, entered := true, depth := 1, store := [s.highway.latest] }
      |> slip .realign
      |> post .lineState none none none 0x02
  else s

/-- A partial handset message is discarded at the entry to LOST (step 3 of R10). -/
def Slot.loseLine (r : Slot) : Slot := { r with assembler := .hunt none }

/-- The entry to LOST, when the miss run has reached W in this frame (R10). -/
def entryToLost (s : State) : State :=
  if s.highway.lossDue then
    let entered := s.withHighway { s.highway with
        timing := .lost, goodCount := 0, lossDue := false, lossHold := some { elapsed := 0, due := false } }
      |> post .lineState none none none 0x00
    let abandoned := { entered with slots := mapTable Slot.loseLine entered.slots } |> forEach slotIds abandon
    { abandoned with contexts := mapTable (Option.map Context.slipped) abandoned.contexts }
  else s

/-- The loss hold expiry, when it is due (R11). -/
def lossHoldExpiry (s : State) : State :=
  if s.highway.timing = .lost ∧ expired s.highway.lossHoldLimit s.highway.lossHold = true then
    s.withHighway { s.highway with lossHold := none }
      |> forEach contextIds (sweepContext .lineLoss)
      |> forEach slotIds (signOffSlot .lineLoss)
      |> post .lineState none none none 0x03
  else s

/-! ### The commands -/

/-- LINE_PULSE_FRAME. -/
def execLinePulseFrame (first : SlotWords) (second : Option SlotWords) (judgedFirst : List ContextId) (s : State) :
    Host.Outcome State Fault Refusal :=
  whileRunning (observeLine (first :: second.toList) judgedFirst) s

/-- NO_PULSE_FRAME. -/
def execNoPulseFrame (judgedFirst : List ContextId) (s : State) : Host.Outcome State Fault Refusal :=
  whileRunning (observeLine [] judgedFirst) s

/-- ENTRY_TO_LOCKED. -/
def execEntryToLocked (s : State) : Host.Outcome State Fault Refusal := whileRunning entryToLocked s

/-- ENTRY_TO_LOST. -/
def execEntryToLost (s : State) : Host.Outcome State Fault Refusal := whileRunning entryToLost s

/-- LOSS_HOLD_EXPIRY. -/
def execLossHoldExpiry (s : State) : Host.Outcome State Fault Refusal := whileRunning lossHoldExpiry s

/-- FILTERED_CODE_CHANGE. -/
def execFilteredCodeChange (i : SlotId) (s : State) : Host.Outcome State Fault Refusal :=
  whileRunning (filteredCodeChange i) s

end Sys2Proof.Machine
end

