-- ==== Sys2Proof/Machine/PrivacyRequests.lean ====
section
/-! DEFINITION. The requests on the engine's levels (05_transform_engine), the site table and the contexts
(06_privacy_contexts_and_site_keys). -/

namespace Sys2Proof.Machine

/-! ### Engine levels and sites -/

/-- SET-ENGINE-LEVELS (R94). -/
def setEngineLevels (body : List Byte) (s : State) : Answer :=
  if 3 < byteAt body 0 ∨ 3 < byteAt body 1 ∨ 3 < byteAt body 2 then refusedWith .badArgument s
  else
    ok (s.withEngine { s.engine with
      rxLevel := byteAt body 0, txLevel := byteAt body 1, verifyLevel := byteAt body 2 })

/-- A context that is not FREE names the site (R99). -/
def siteReferenced (i : SiteId) (s : State) : Bool := contextIds.any fun c => (s.context c).any fun x => x.site == i

/-- The sites not EMPTY other than `i` that hold an identifier (R100). -/
def identifierElsewhere (i : SiteId) (identifier : Word) (s : State) : Bool :=
  (List.finRange 32).any fun j => j != i && (s.sites[j]).any fun x => x.identifier == identifier

/-- LOAD-SITE (R100). -/
def loadSite (body : List Byte) (s : State) : Answer :=
  match indexOf 32 (byteAt body 0) with
  | none => refusedWith .badArgument s
  | some i =>
    let identifier : Word := BitVec.ofNat 16 (field16 body 1)
    if siteReferenced i s then refusedWith .inUse s
    else if identifierElsewhere i identifier s then refusedWith .duplicate s
    else ok { s with sites := s.sites.set i (some { identifier := identifier, key := fieldKey body 3 }) }

/-- CLEAR-SITE (R101). -/
def clearSite (body : List Byte) (s : State) : Answer :=
  match indexOf 32 (byteAt body 0) with
  | none => refusedWith .badArgument s
  | some i => if siteReferenced i s then refusedWith .inUse s else ok { s with sites := s.sites.set i none }

/-! ### Opening a context -/

/-- A profile field: its default when all ones, else clamped to its range (R103). -/
def profileField (allOnes default low high v : Nat) : Nat := if v = allOnes then default else clamp low high v

/-- The segment length of a profile, absent when it is refused (R103). -/
def segmentOf (v : Nat) : Option Nat :=
  if v = 0xFF then some 16 else if v = 8 ∨ v = 16 ∨ v = 32 then some v else none

/-- The masking choice of a profile, absent when it is refused (R103). -/
def maskingOf (v : Nat) : Option Bool :=
  if v = 0xFF ∨ v = 1 then some true else if v = 0 then some false else none

/-- The profile of an OPEN-PRIVACY body, absent when it is refused with BAD-ARGUMENT (R103, R104). -/
def profileOf (body : List Byte) : Option Profile :=
  match segmentOf (byteAt body 3), maskingOf (byteAt body 4) with
  | some segment, some masking => some {
      segment := segment
      masking := masking
      presync := profileField 0xFF 2 1 4 (byteAt body 5)
      flywheel := profileField 0xFF 4 1 15 (byteAt body 6)
      huntLimit := profileField 0xFFFFFF 40000 4000 240000 (field24 body 7)
      clearGuard := profileField 0xFFFF 6400 800 16000 (field16 body 10)
      rekeyInterval := profileField 0xFFFF 0 0 1440 (field16 body 12) }
  | _, _ => none

/-- Details of a POLICY refusal (R104). -/
inductive PolicyDetail where
  | full
  | tieBusy
  | notAdmitted
  | standing
  | cls
  | site
  | partners
  deriving DecidableEq, Repr

/-- Code of a POLICY detail (R104). -/
def PolicyDetail.code : PolicyDetail → Byte
  | .full => 1
  | .tieBusy => 2
  | .notAdmitted => 3
  | .standing => 4
  | .cls => 5
  | .site => 6
  | .partners => 7

/-- What an open takes from its context table and its extension slot once no policy check refuses it (R105). -/
structure Opening where
  context : ContextId
  index : RecordId
  number : ExtensionNumber

/-- The lowest-numbered FREE context (R105). -/
def lowestFree (s : State) : Option ContextId := contextIds.find? fun c => (s.context c).isNone

/-- The extension's class allows privacy now (R104). -/
def classAllows (k : Option ClassId) (s : State) : Bool :=
  k.any fun k => (s.classRecord k).privacy && (s.classRecord k).inBand

/-- The policy checks in the order of R104. -/
def judgeOpen (tie ext : SlotId) (site : SiteId) (s : State) : Except PolicyDetail Opening :=
  match lowestFree s with
  | none => .error .full
  | some c =>
    let t := s.slot tie
    let e := s.slot ext
    if t.kind ≠ .tie ∨ t.boundContext.isSome then .error .tieBusy
    else if e.kind ≠ .extension ∨ e.admission ≠ .admitted ∨ e.visitor = true then .error .notAdmitted
    else match e.boundIndex, e.number with
      | some r, some n =>
        if (s.record r).all (fun x => x.standing != .good) then .error .standing
        else if classAllows e.admissionClass s = false then .error .cls
        else if (s.sites[site]).isNone then .error .site
        else if Config.partnerMax ≤ e.partners.length then .error .partners
        else .ok { context := c, index := r, number := n }
      | _, _ => .error .notAdmitted

/-- The scrambler at the open: KEYING with the drawn nonce, epoch 0, and the open frame's code (R105, R120, R121);
DEDUCED (log entry 13): the open frame's code stands at offset 0. -/
def Scrambler.opening (nonce : BitVec 24) (sample : Sample) : Scrambler where
  state := .keying
  current := none
  next := some { nonce := nonce, epoch := 0, words := none, fresh := false }
  last := none
  countdown := none
  clearCount := 0
  collection := [sample]
  collected := []
  emission := .idle

/-- The descrambler at the open: HUNT with its hunt timer at 0 (R105, R137). -/
def Descrambler.opening : Descrambler := { Descrambler.halted with hunt := some 0 }

/-- A context in its open frame (R105). -/
def openedContext (tie ext : SlotId) (site : SiteId) (p : Profile) (o : Opening) (nonce : BitVec 24) (s : State) :
    Context where
  phase := .opening
  tie := tie
  ext := ext
  index := o.index
  number := o.number
  site := site
  profile := p
  openStamp := s.clock.reading
  elapsed := 0
  rekeyElapsed := 0
  rekeys := 0
  syncLosses := 0
  reached := false
  gone := false
  cause := none
  scrambler := Scrambler.opening nonce (sampleOf (s.highway.received.wordOf tie))
  descrambler := Descrambler.opening
  offset := 0
  boundaryDue := false

/-- Opens a context (R105). -/
def openContext (tie ext : SlotId) (site : SiteId) (p : Profile) (o : Opening) (s : State) : State :=
  let drawn := drawNonce s
  let nonce := drawn.engine.nonce
  drawn
    |> (·.withContext o.context (some (openedContext tie ext site p o nonce s)))
    |> onSlot tie (fun r => { r with boundContext := some o.context })
    |> onSlot ext (fun r => { r with partners := r.partners ++ [o.context] })
    |> postJob (.txKey o.context site nonce 0)

/-- OPEN-PRIVACY (R104, R105). -/
def openPrivacy (body : List Byte) (s : State) : Answer :=
  match slotOf (byteAt body 0), slotOf (byteAt body 1), indexOf 32 (byteAt body 2), profileOf body with
  | some tie, some ext, some site, some p =>
    match judgeOpen tie ext site s with
    | .error detail => { status := .policy, body := [detail.code], state := s }
    | .ok o => answerWith [byte o.context.val] (openContext tie ext site p o s)
  | _, _, _, _ => refusedWith .badArgument s

/-! ### Closing, rekeying and reading a context -/

/-- CLOSE-PRIVACY (R112). -/
def closePrivacy (body : List Byte) (s : State) : Answer :=
  match indexOf 64 (byteAt body 0) with
  | none => refusedWith .badArgument s
  | some c => match s.context c with
    | none => refusedWith .wrongState s
    | some x => if x.phase = .closing then refusedWith .wrongState s else ok (closeContext c .management s)

/-- REKEY (R116). -/
def rekey (body : List Byte) (s : State) : Answer :=
  match indexOf 64 (byteAt body 0) with
  | none => refusedWith .badArgument s
  | some c =>
    if (s.context c).any (fun x => x.scrambler.state == .running) then ok (startRekey c s)
    else refusedWith .wrongState s

/-- The 48 bytes of READ-CONTEXT that follow the index and state of a context that is not FREE (R118). -/
def contextBytes (x : Context) (s : State) : List Byte :=
  [byte x.tie.number, byte x.ext.number] ++
  bytes16 x.index.val ++ bytes24 x.number.toNat ++ [byte x.site.val] ++
  optional16 ((s.sites[x.site]).map fun y => y.identifier.toNat) ++
  [byte x.profile.segment, byte (flagNat x.profile.masking), byte x.profile.presync, byte x.profile.flywheel] ++
  bytes24 x.profile.huntLimit ++ bytes16 x.profile.clearGuard ++ bytes16 x.profile.rekeyInterval ++
  stampBytes x.openStamp ++ bytes32 x.elapsed ++ bytes32 x.rekeyElapsed ++ bytes16 x.rekeys ++
  [byte x.syncLosses, byte (flagNat x.reached)] ++ optional8 (x.cause.map CloseCause.code) ++
  [byte x.scrambler.state.code] ++ optional8 (x.scrambler.current.map fun k => k.epoch.toNat) ++
  optional24 (x.scrambler.last.map BitVec.toNat) ++
  [byte x.descrambler.state.code] ++ optional8 (x.descrambler.held.map fun k => k.epoch.toNat)

/-- READ-CONTEXT (R118). -/
def readContext (body : List Byte) (s : State) : Answer :=
  match indexOf 64 (byteAt body 0) with
  | none => refusedWith .badArgument s
  | some c => match s.context c with
    | none => answerWith ([byte c.val, 0] ++ List.replicate 48 0xFF) s
    | some x => answerWith ([byte c.val, byte x.phase.code] ++ contextBytes x s) s

/-! ### The commands -/

/-- SET_ENGINE_LEVELS. -/
def execSetEngineLevels (body : List Byte) (s : State) : Host.Outcome State Fault Refusal :=
  whileRunning (request 0x30 3 setEngineLevels body) s

/-- LOAD_SITE. -/
def execLoadSite (body : List Byte) (s : State) : Host.Outcome State Fault Refusal :=
  whileRunning (request 0x40 11 loadSite body) s

/-- CLEAR_SITE. -/
def execClearSite (body : List Byte) (s : State) : Host.Outcome State Fault Refusal :=
  whileRunning (request 0x41 1 clearSite body) s

/-- OPEN_PRIVACY. -/
def execOpenPrivacy (body : List Byte) (s : State) : Host.Outcome State Fault Refusal :=
  whileRunning (request 0x42 14 openPrivacy body) s

/-- CLOSE_PRIVACY. -/
def execClosePrivacy (body : List Byte) (s : State) : Host.Outcome State Fault Refusal :=
  whileRunning (request 0x43 1 closePrivacy body) s

/-- REKEY. -/
def execRekey (body : List Byte) (s : State) : Host.Outcome State Fault Refusal :=
  whileRunning (request 0x44 1 rekey body) s

/-- READ_CONTEXT. -/
def execReadContext (body : List Byte) (s : State) : Host.Outcome State Fault Refusal :=
  whileRunning (request 0x45 1 readContext body) s

end Sys2Proof.Machine
end

