-- ==== Sys2Proof/Machine/RecordRequests.lean ====
section
/-! DEFINITION. The requests of the Clock and Records Unit on its queues (10_clock_events_and_call_records). -/

namespace Sys2Proof.Machine

/-- SET-EVENT-MASK (R172). -/
def setEventMask (body : List Byte) (s : State) : Answer :=
  if 0x7FF < field16 body 0 then refusedWith .badArgument s
  else ok { s with events := { s.events with mask := BitVec.ofNat 11 (field16 body 0) } }

/-- The 13 bytes of an event record (R173). -/
def eventBytes (e : Event) : List Byte :=
  [byte e.kind.code] ++ stampBytes e.stamp ++ optional8 (e.slot.map SlotId.number) ++
  optional8 (e.context.map Fin.val) ++ optional16 (e.index.map Fin.val) ++ [e.detail]

/-- READ-EVENTS (R173). -/
def readEvents (body : List Byte) (s : State) : Answer :=
  let n := byteAt body 0
  if n = 0 ∨ 8 < n then refusedWith .badArgument s
  else
    let taken := s.events.queue.take n
    answerWith ([byte taken.length, byte (flagNat s.events.overflow)] ++ taken.flatMap eventBytes)
      { s with events := { s.events with queue := s.events.queue.drop n, overflow := false } }

/-- The 30 bytes of a call record (R175). -/
def callRecordBytes (r : CallRecord) : List Byte :=
  [byte r.tie.number, byte r.ext.number] ++ bytes16 r.index.val ++ bytes24 r.number.toNat ++ [byte r.site.val] ++
  stampBytes r.openStamp ++ stampBytes r.closeStamp ++ bytes24 r.duration ++
  optional8 (r.cause.map CloseCause.code) ++ bytes16 r.rekeys ++ [byte r.syncLosses, byte (flagNat r.reached)]

/-- READ-RECORDS (R175). -/
def readRecords (body : List Byte) (s : State) : Answer :=
  let n := byteAt body 0
  if n = 0 ∨ 4 < n then refusedWith .badArgument s
  else
    let taken := s.records.queue.take n
    answerWith ([byte taken.length] ++ bytes16 s.records.discarded ++ taken.flatMap callRecordBytes)
      { s with records := { queue := s.records.queue.drop n, discarded := 0 } }

/-! ### The commands -/

/-- SET_EVENT_MASK. -/
def execSetEventMask (body : List Byte) (s : State) : Host.Outcome State Fault Refusal :=
  whileRunning (request 0x60 2 setEventMask body) s

/-- READ_EVENTS. -/
def execReadEvents (body : List Byte) (s : State) : Host.Outcome State Fault Refusal :=
  whileRunning (request 0x61 1 readEvents body) s

/-- READ_RECORDS. -/
def execReadRecords (body : List Byte) (s : State) : Host.Outcome State Fault Refusal :=
  whileRunning (request 0x62 1 readRecords body) s

end Sys2Proof.Machine
end

