-- ==== Sys2Proof/Machine/SlotRequests.lean ====
section
/-! DEFINITION. The requests on slot records: SET-SLOT and READ-SLOT (02_slot_table_and_line_supervision, section
2.7) and FORCE-SIGN-OFF (04_extension_admission, section 4.7). -/

namespace Sys2Proof.Machine

/-- A SET-SLOT that keeps the kind: the filter is timed afresh under the new length (R36). A change that was due in
this frame is abandoned, and the idle duration is brought up to date on the code kept (R24). -/
def Slot.retime (n : Nat) (r : Slot) : Slot :=
  { r with
    filterLength := n
    candidate := r.filtered
    persistence := 0
    changeDue := false
    filterFresh := true
    idle := if r.changeDue then (if r.filtered = 0 then raise Config.count16Max r.idle else 0) else r.idle }

/-- A SET-SLOT that changes the kind: the dynamic fields are reset; what the present frame gives stands (R34), but no
message begins in it any more (R50; DESIGN CHOICE, log entry 24). -/
def Slot.rekind (k : Kind) (n : Nat) (r : Slot) : Slot :=
  { Slot.initial with
    kind := k, filterLength := n, filterFresh := true, gate := r.gate, auxOut := r.auxOut, toneOut := r.toneOut }

/-- SET-SLOT: the checks in the order of R33, then the write. -/
def setSlot (body : List Byte) (s : State) : Answer :=
  match slotOf (byteAt body 0) with
  | none => refusedWith .badArgument s
  | some i => match kindOf (byteAt body 1) with
    | none => refusedWith .badArgument s
    | some k =>
      if (s.slot i).inUse then refusedWith .inUse s
      else
        let n := min (byteAt body 2) Config.filterLengthMax
        ok (onSlot i (fun r => if k = r.kind then r.retime n else r.rekind k n) s)

/-- Frames until a timer expires: at least one for a timer that a lowered limit ends in the next frame (R81). -/
def Timer.remaining (limit : Nat) (t : Timer) : Nat :=
  if t.elapsed < limit then limit - t.elapsed else if t.due then 0 else 1

/-- Timer remaining of a slot (R35; DEDUCED, log entry 12). -/
def Slot.timerRemaining (timers : Timers) (r : Slot) : Option Nat :=
  match r.admission with
  | .challenged => r.responseTimer.map (Timer.remaining timers.responseTimeout)
  | .hold => r.refusalHold.map (Timer.remaining timers.refusalHold)
  | _ => none

/-- A value of an EXTENSION slot, absent on a slot of another kind (R35). -/
def Slot.forExtension {α : Type} (r : Slot) (v : α) : Option α := if r.kind = .extension then some v else none

/-- The body of READ-SLOT, 25 bytes (R35). -/
def readSlotBody (i : SlotId) (timers : Timers) (r : Slot) : List Byte :=
  [byte i.number, byte r.kind.code, byte r.filterLength,
    r.filtered.setWidth 8, r.candidate.setWidth 8, byte r.persistence] ++
  bytes16 r.idle ++
  optional8 (r.forExtension r.admission.code) ++
  optional16 ((r.forExtension r.boundIndex).join.map Fin.val) ++
  optional8 (r.forExtension (flagNat r.visitor)) ++
  optional24 ((r.forExtension r.number).join.map BitVec.toNat) ++
  optional24 (r.forExtension (r.timerRemaining timers)).join ++
  optional8 ((if r.kind = .tie then r.boundContext else none).map Fin.val) ++
  optional8 (r.forExtension r.partners.length) ++
  (List.range 4).flatMap (fun k => optional8 ((r.forExtension (r.partners[k]?)).join.map Fin.val)) ++
  [byte r.garbled]

/-- READ-SLOT: the record is reported, and the garbled count is then set to 0 (R35). -/
def readSlot (body : List Byte) (s : State) : Answer :=
  match slotOf (byteAt body 0) with
  | none => refusedWith .badArgument s
  | some i =>
    answerWith (readSlotBody i s.timers (s.slot i)) (onSlot i (fun r => { r with garbled := 0 }) s)

/-- FORCE-SIGN-OFF by the slot's kind and admission state (R79). -/
def forceSignOff (body : List Byte) (s : State) : Answer :=
  match slotOf (byteAt body 0) with
  | none => refusedWith .badArgument s
  | some i =>
    if (s.slot i).kind ≠ .extension then refusedWith .wrongState s
    else match (s.slot i).admission with
      | .locked | .hold => refusedWith .wrongState s
      | .challenged | .verifying => ok (abandon i s)
      | .admitted | .expiring => ok (signOffSlot .management i s)

/-! ### The commands -/

/-- SET_SLOT. -/
def execSetSlot (body : List Byte) (s : State) : Host.Outcome State Fault Refusal :=
  whileRunning (request 0x10 3 setSlot body) s

/-- READ_SLOT. -/
def execReadSlot (body : List Byte) (s : State) : Host.Outcome State Fault Refusal :=
  whileRunning (request 0x11 1 readSlot body) s

/-- FORCE_SIGN_OFF. -/
def execForceSignOff (body : List Byte) (s : State) : Host.Outcome State Fault Refusal :=
  whileRunning (request 0x12 1 forceSignOff body) s

end Sys2Proof.Machine
end

