-- ==== Sys2Proof/Machine/SystemRequests.lean ====
section
/-! DEFINITION. The requests of the part as a whole (11_maintenance_channel, sections 11.5 and 11.6) and SET-TIME
(10_clock_events_and_call_records). -/

namespace Sys2Proof.Machine

/-- The number of contexts that are not FREE (R181). -/
def contextsInUse (s : State) : Nat := contextIds.countP fun c => (s.context c).isSome

/-- The number of slots in ADMITTED or EXPIRING (R181). -/
def admittedSlots (s : State) : Nat := slotIds.countP fun i => (s.slot i).isAdmitted

/-- The body of GET-STATUS, 19 bytes (R181). -/
def statusBody (s : State) : List Byte :=
  bytes16 Config.familyCode.toNat ++ [Config.revision, byte s.highway.timing.code] ++
  bytes16 s.highway.slipCount ++ bytes16 s.port.rejected ++
  [byte s.events.queue.length, byte s.records.queue.length] ++ stampBytes s.clock.reading ++
  [byte (contextsInUse s), byte (admittedSlots s)]

/-- GET-STATUS (R181). -/
def getStatus (_body : List Byte) (s : State) : Answer := answerWith (statusBody s) s

/-- SET-TIME (R168). -/
def setTime (body : List Byte) (s : State) : Answer :=
  if 23 < byteAt body 2 ∨ 59 < byteAt body 3 ∨ 59 < byteAt body 4 then refusedWith .badArgument s
  else
    let reading : Reading :=
      { day := field16 body 0, hour := byteAt body 2, minute := byteAt body 3, second := byteAt body 4, frame := 0 }
    ok ({ s with clock := { s.clock with reading := reading } } |> recomputeBands)

/-- SET-TIMERS (R8, R81, R182). The frame in which it acts may be the first that is judged by a new W, and a timer due
in that frame still expires in it (DESIGN CHOICE, log entries 23 and 25). -/
def setTimers (body : List Byte) (s : State) : Answer :=
  let timers : Timers :=
    { responseTimeout := clamp 400 16000 (field16 body 0), refusalHold := min (field24 body 2) 240000 }
  let highway := { s.highway with
    lossWindow := clamp 2 16 (byteAt body 5), lossHoldLimit := clamp 4000 64000 (field16 body 6) }
  ok { s with timers := timers, highway := highway }

/-! ### Soft resets -/

/-- A sign-on in progress is abandoned, or a refusal hold ends (step 3 of R183). -/
def releaseSlot (i : SlotId) (s : State) : State :=
  let t := abandon i s
  if (t.slot i).admission = .hold then onSlot i (fun r => { r with admission := .locked, refusalHold := none }) t
  else t

/-- The five steps of RESET, with the causes of the request (R183). -/
def softReset (close : CloseCause) (signOff : SignOffCause) (s : State) : State :=
  let released := s
    |> forEach contextIds (sweepContext close)
    |> forEach slotIds (signOffSlot signOff)
    |> forEach slotIds releaseSlot
  let stopped := released.withEngine released.engine.stop
  { stopped with slots := mapTable (fun r => r.dropTones.dropAllMessages) stopped.slots }

/-- RESET (R183). -/
def resetPart (_body : List Byte) (s : State) : Answer := ok (softReset .reset .reset s)

/-- ERASE-SECRETS (R184). -/
def eraseSecrets (_body : List Byte) (s : State) : Answer :=
  ok { softReset .erased .erased s with
    directory := Vector.replicate 512 none, sites := Vector.replicate 32 none }

/-! ### The commands -/

/-- GET_STATUS. -/
def execGetStatus (body : List Byte) (s : State) : Host.Outcome State Fault Refusal :=
  whileRunning (request 0x01 0 getStatus body) s

/-- SET_TIME. -/
def execSetTime (body : List Byte) (s : State) : Host.Outcome State Fault Refusal :=
  whileRunning (request 0x02 5 setTime body) s

/-- SET_TIMERS. -/
def execSetTimers (body : List Byte) (s : State) : Host.Outcome State Fault Refusal :=
  whileRunning (request 0x03 8 setTimers body) s

/-- RESET. -/
def execReset (body : List Byte) (s : State) : Host.Outcome State Fault Refusal :=
  whileRunning (request 0x04 0 resetPart body) s

/-- ERASE_SECRETS. -/
def execEraseSecrets (body : List Byte) (s : State) : Host.Outcome State Fault Refusal :=
  whileRunning (request 0x05 0 eraseSecrets body) s

end Sys2Proof.Machine
end

