-- ==== Sys2Proof/Machine/Tones.lean ====
section
/-! DEFINITION. The tone players in a frame (09_tone_injection): the code of a frame, the end of a burst and of a gap. -/

namespace Sys2Proof.Machine

/-- The player's part of a frame's start: the code of this frame, or none in a gap (R157). -/
def Slot.beginTone (r : Slot) : Slot :=
  match r.tone with
  | none => { r with toneOut := none }
  | some t => match t.phase with
    | .burst k => { r with toneOut := some (burstCode t.descriptor k), tone := some { t with phase := .burst (k + 1) } }
    | .gap k => { r with toneOut := none, tone := some { t with phase := .gap (k + 1) } }

/-- The next burst of a tone; the number of bursts is not kept when the count is 0 (R158). -/
def Tone.nextBurst (t : Tone) : Tone :=
  { t with begun := if t.descriptor.bursts = 0 then t.begun else t.begun + 1, phase := .burst 0 }

/-- The end of a burst, when its last sample has been given (R157). -/
def burstEnd (i : SlotId) (s : State) : State :=
  match (s.slot i).tone with
  | none => s
  | some t => match t.phase with
    | .gap _ => s
    | .burst k =>
      if k < burstLength t.descriptor then s
      else if t.descriptor.bursts ≠ 0 ∧ t.descriptor.bursts ≤ t.begun then onSlot i (Slot.endTone s.tones) s
      else if t.descriptor.gap = 0 then onSlot i (fun r => { r with tone := some t.nextBurst }) s
      else onSlot i (fun r => { r with tone := some { t with phase := .gap 0 } }) s

/-- The end of a gap, when its last frame has been given (R157). -/
def gapEnd (i : SlotId) (s : State) : State :=
  match (s.slot i).tone with
  | none => s
  | some t => match t.phase with
    | .burst _ => s
    | .gap k => if k < t.descriptor.gap then s else onSlot i (fun r => { r with tone := some t.nextBurst }) s

/-! ### The commands -/

/-- BURST_END. -/
def execBurstEnd (i : SlotId) (s : State) : Host.Outcome State Fault Refusal := whileRunning (burstEnd i) s

/-- GAP_END. -/
def execGapEnd (i : SlotId) (s : State) : Host.Outcome State Fault Refusal := whileRunning (gapEnd i) s

end Sys2Proof.Machine
end

