-- ==== Sys2Proof/Machine/ToneRequests.lean ====
section
/-! DEFINITION. The requests of the Tone Unit (09_tone_injection). -/

namespace Sys2Proof.Machine

/-- The fields that a LOAD-TONE with loaded flag 1 writes, clamped (R155). -/
def loadedTone (body : List Byte) : ToneDescriptor where
  halfPeriod := max (byteAt body 2) 2
  magnitude := clamp 1 127 (byteAt body 3)
  decrement := min (byteAt body 4) 15
  step := max (byteAt body 5) 1
  periods := max (field16 body 6) 1
  gap := field16 body 8
  bursts := byteAt body 10
  priority := byteAt body 11

/-- Descriptor `d` replaced. -/
def withTone (d : ToneId) (x : Option ToneDescriptor) (s : State) : State :=
  { s with tones := { s.tones with descriptors := s.tones.descriptors.set d x } }

/-- LOAD-TONE (R155): the field bytes are not examined when the loaded flag is 0. -/
def loadTone (body : List Byte) (s : State) : Answer :=
  match indexOf 8 (byteAt body 0) with
  | none => refusedWith .badArgument s
  | some d =>
    if 1 < byteAt body 1 then refusedWith .badArgument s
    else if byteAt body 1 = 0 then ok (withTone d none s)
    else if 3 < byteAt body 11 then refusedWith .badArgument s
    else ok (withTone d (some (loadedTone body)) s)

/-- A byte that SET-TONE-FUNCTIONS accepts: 0 to 7, or 0xFF (R163). -/
def legalToneByte (v : Nat) : Bool := decide (v ≤ 7) || v == 0xFF

/-- The tone function table of a SET-TONE-FUNCTIONS body (R163). -/
def toneFunctionsOf (body : List Byte) : ToneFunctions where
  admission := indexOf 8 (byteAt body 0)
  refused := indexOf 8 (byteAt body 1)
  expiring := indexOf 8 (byteAt body 2)
  privacyOn := indexOf 8 (byteAt body 3)
  privacyLost := indexOf 8 (byteAt body 4)
  privacyOff := indexOf 8 (byteAt body 5)

/-- SET-TONE-FUNCTIONS (R163). -/
def setToneFunctions (body : List Byte) (s : State) : Answer :=
  if (List.range 6).all (fun k => legalToneByte (byteAt body k)) then
    ok { s with tones := { s.tones with functions := toneFunctionsOf body } }
  else refusedWith .badArgument s

/-- PLAY-TONE: the checks in the order of R161, then the tone request and its outcome (R159). -/
def playTone (body : List Byte) (s : State) : Answer :=
  match slotOf (byteAt body 0), indexOf 8 (byteAt body 1) with
  | some i, some d =>
    if (s.slot i).kind ≠ .extension then refusedWith .wrongState s
    else match s.tones.descriptors[d] with
      | none => refusedWith .notFound s
      | some x =>
        let asked := (s.slot i).requestTone d x
        answerWith [asked.1.code] (s.withSlot i asked.2)
  | _, _ => refusedWith .badArgument s

/-- STOP-TONE by its scope (R162). -/
def stopTone (body : List Byte) (s : State) : Answer :=
  match slotOf (byteAt body 0) with
  | none => refusedWith .badArgument s
  | some i =>
    if 1 < byteAt body 1 then refusedWith .badArgument s
    else if (s.slot i).kind ≠ .extension then refusedWith .wrongState s
    else if byteAt body 1 = 0 then
      ok (onSlot i (fun r => if r.tone.isSome then r.endTone s.tones else r) s)
    else ok (onSlot i Slot.dropTones s)

/-! ### The commands -/

/-- LOAD_TONE. -/
def execLoadTone (body : List Byte) (s : State) : Host.Outcome State Fault Refusal :=
  whileRunning (request 0x50 12 loadTone body) s

/-- SET_TONE_FUNCTIONS. -/
def execSetToneFunctions (body : List Byte) (s : State) : Host.Outcome State Fault Refusal :=
  whileRunning (request 0x51 6 setToneFunctions body) s

/-- PLAY_TONE. -/
def execPlayTone (body : List Byte) (s : State) : Host.Outcome State Fault Refusal :=
  whileRunning (request 0x52 2 playTone body) s

/-- STOP_TONE. -/
def execStopTone (body : List Byte) (s : State) : Host.Outcome State Fault Refusal :=
  whileRunning (request 0x53 2 stopTone body) s

end Sys2Proof.Machine
end

