-- ==== Sys2Proof/Machine/Requests.lean ====
section
/-! DEFINITION. The request assembler of the Maintenance Port (R178) and the hand-over of a completed request to its
owner by its code (R179, 11_maintenance_channel section 11.9). -/

namespace Sys2Proof.Machine

/-- A completed request acts by its code, exactly as the command of its name does (R179). -/
def performRequest (code : Byte) (body : List Byte) : State → State :=
  match code.toNat with
  | 0x01 => request 0x01 0 getStatus body
  | 0x02 => request 0x02 5 setTime body
  | 0x03 => request 0x03 8 setTimers body
  | 0x04 => request 0x04 0 resetPart body
  | 0x05 => request 0x05 0 eraseSecrets body
  | 0x10 => request 0x10 3 setSlot body
  | 0x11 => request 0x11 1 readSlot body
  | 0x12 => request 0x12 1 forceSignOff body
  | 0x20 => request 0x20 20 loadEntry body
  | 0x21 => request 0x21 2 deleteEntry body
  | 0x22 => request 0x22 3 readDirectory body
  | 0x23 => request 0x23 3 setStanding body
  | 0x24 => request 0x24 6 loadClass body
  | 0x25 => request 0x25 7 loadVisitorRule body
  | 0x26 => request 0x26 2 setVisitorMasks body
  | 0x30 => request 0x30 3 setEngineLevels body
  | 0x40 => request 0x40 11 loadSite body
  | 0x41 => request 0x41 1 clearSite body
  | 0x42 => request 0x42 14 openPrivacy body
  | 0x43 => request 0x43 1 closePrivacy body
  | 0x44 => request 0x44 1 rekey body
  | 0x45 => request 0x45 1 readContext body
  | 0x50 => request 0x50 12 loadTone body
  | 0x51 => request 0x51 6 setToneFunctions body
  | 0x52 => request 0x52 2 playTone body
  | 0x53 => request 0x53 2 stopTone body
  | 0x60 => request 0x60 2 setEventMask body
  | 0x61 => request 0x61 1 readEvents body
  | 0x62 => request 0x62 1 readRecords body
  | _ => unknownRequest code

/-- The request assembler takes one byte of the downstream stream (R178). -/
def takeByte (b : Byte) (s : State) : State :=
  let go (a : PortAssembler) : State := s.withPort { s.port with assembler := a }
  match s.port.assembler with
  | .hunt previous => if previous = some 0xD2 ∧ b = 0x4B then go (.length none) else go (.hunt (some b))
  | .length none => go (.length (some b))
  | .length (some h) =>
    let n := h.toNat * 256 + b.toNat
    if 1 ≤ n ∧ n ≤ Config.requestLengthMax then go (.body n [] (h.setWidth 16 + b.setWidth 16))
    else rejectMessage s
  | .body n content sum =>
    let taken := content ++ [b]
    if n ≤ taken.length then go (.check taken (sum + b.setWidth 16) none)
    else go (.body n taken (sum + b.setWidth 16))
  | .check content sum none => go (.check content sum (some b))
  | .check content sum (some h) =>
    if h ++ b = sum then performRequest (content.headD 0) content.tail s else rejectMessage s

/-- The two bytes of a downstream slot 0 word, bits 15 to 8 first (R177; DESIGN CHOICE, log entry 7: a request that they
complete acts at the start of the frame). -/
def takeDownstream (w : Word) (s : State) : State :=
  s |> takeByte (w.extractLsb' 8 8) |> takeByte (w.extractLsb' 0 8)

end Sys2Proof.Machine
end

