-- ==== Sys2Proof/Machine/Frame.lean ====
section
/-! DEFINITION. The frame (01_highways_and_frame_timing, section 1.1): what the exchange-side frame pulse advances,
the words the part sends, and the end of a frame, which takes everything that fell due in it and that no command
has taken. Power-on, the reset pin and the stop of the pulse. -/

namespace Sys2Proof.Machine

/-! ### The advance of a frame -/

/-- The clock's advance by one frame, with its carries (R166). -/
def Reading.advance (r : Reading) : Reading :=
  if r.frame < 7999 then { r with frame := r.frame + 1 }
  else if r.second < 59 then { r with frame := 0, second := r.second + 1 }
  else if r.minute < 59 then { r with frame := 0, second := 0, minute := r.minute + 1 }
  else if r.hour < 23 then { r with frame := 0, second := 0, minute := 0, hour := r.hour + 1 }
  else { day := if r.day < 65535 then r.day + 1 else 0, hour := 0, minute := 0, second := 0, frame := 0 }

/-- The advance from this reading is a minute boundary (R167). -/
def Reading.endsMinute (r : Reading) : Bool := decide (7999 ≤ r.frame ∧ 59 ≤ r.second)

/-- The clock at a frame pulse: the first frame after power-on reads zero, every later one advances (R166; log entry
5). -/
def Clock.beginFrame (c : Clock) : Clock :=
  match c.timebase with
  | .awaiting => { c with timebase := .running }
  | .running | .stopped =>
    { reading := c.reading.advance, timebase := .running, minuteDue := c.reading.endsMinute }

/-- A running timer's advance (00_scope, section 4.1). -/
def Timer.advance (limit : Nat) (t : Timer) : Timer :=
  { elapsed := t.elapsed + 1, due := decide (limit ≤ t.elapsed + 1) }

/-- The Highway Interface at a frame pulse (R1, R2, R11). -/
def Highway.beginFrame (words : SlotWords) (h : Highway) : Highway :=
  { h with
    received := words, observed := false, lockDue := false, lossDue := false, entered := false
    lossHold := h.lossHold.map (Timer.advance h.lossHoldLimit) }

/-- A slot at a frame pulse: its gating is fixed, its timers advance, its transmitter and player give (R25, R49,
R67, R73, R157). -/
def Slot.beginFrame (timers : Timers) (r : Slot) : Slot :=
  { r with
    gate := r.gating
    filterFresh := false
    responseTimer := r.responseTimer.map (Timer.advance timers.responseTimeout)
    refusalHold := r.refusalHold.map (Timer.advance timers.refusalHold) }
    |>.beginTransmit |>.beginTone

/-- The scrambler takes the code of the frame at its offset; the block of a period that ends is kept for its
boundary (R121). -/
def Scrambler.collect (first : Bool) (sample : Sample) (sc : Scrambler) : Scrambler :=
  if first then { sc with collected := sc.collection, collection := [sample] }
  else { sc with collection := sc.collection ++ [sample] }

/-- The scrambler's rekey elapsed counter rises in this state, which is that of the frame's start (R115; DEDUCED, log
entry 11). -/
def Scrambler.ages (sc : Scrambler) : Bool := sc.sending || sc.state == .rekeying

/-- A descrambler at a frame pulse: its hunt timer rises (R142). -/
def Descrambler.beginFrame (d : Descrambler) : Descrambler :=
  { d with hunt := d.hunt.map (· + 1), markerDue := false, restoreDue := false }

/-- A context at a frame pulse (R102, R115, R121). -/
def Context.beginFrame (received : SlotWords) (x : Context) : Context :=
  let o := if x.offset + 1 < x.profile.blockLength then x.offset + 1 else 0
  let sc := x.scrambler.collect (o == 0) (sampleOf (received.wordOf x.tie))
  { x with
    elapsed := raise Config.elapsedMax x.elapsed
    rekeyElapsed := if x.scrambler.ages then raise Config.rekeyElapsedMax x.rekeyElapsed else x.rekeyElapsed
    offset := o
    boundaryDue := o == 0
    scrambler := { sc with next := sc.next.map fun n => { n with fresh := false } }
    descrambler := x.descrambler.beginFrame }

/-- A frame pulse: every counter advances, and the words of the exchange side are taken (R1, R2). -/
def beginFrame (pulse : ExchangePulse) (s : State) : State :=
  { s with
    clock := s.clock.beginFrame
    highway := s.highway.beginFrame pulse.words
    slots := mapTable (Slot.beginFrame s.timers) s.slots
    contexts := mapTable (Option.map (Context.beginFrame pulse.words)) s.contexts
    engine := s.engine.beginFrame }
    |> beginUpstream (s.clock.timebase == .awaiting) pulse.idleWordLast
    |> takeDownstream pulse.words[0]

/-! ### The words of a frame -/

/-- What a scrambler sends at an offset of its block period (R127, R130). -/
def Emission.sent (o : Nat) : Emission → Sample × Nibble
  | .idle => (0, 0)
  | .block m codes => (codes.getD o 0, (markerNibbles m).getD o 0)

/-- The code that a descrambler gives to the exchange side (R152). -/
def Descrambler.output (d : Descrambler) : Sample :=
  match d.restored, d.offset with
  | some codes, some o => if d.synchronised then codes.getD o 0 else 0
  | _, _ => 0

/-- The context to which slot `i` was bound at the frame's start, unless it has been freed since: a freed context's
scrambler is STOPPED and sends nothing, which on the wire is code 0x00 and aux nibble 0 (R110, R120; DESIGN CHOICE, log
entry 22). -/
def boundContext (c : ContextId) (i : SlotId) (s : State) : Option Context :=
  (s.context c).filter fun x => x.tie == i && x.elapsed != 0

/-- The word sent in exchange-side slot `i` (R26). -/
def exchangeWord (s : State) (i : SlotId) : Word :=
  let r := s.slot i
  let w := s.highway.lineWords.wordOf i
  match r.gate with
  | .unused | .closed => idleWord
  | .passing => slotWord (sampleOf w) r.filtered 0
  | .through => slotWord (sampleOf w) r.filtered (auxOf w)
  | .bound c => slotWord (((boundContext c i s).map fun x => x.descrambler.output).getD 0) r.filtered 0

/-- The word sent in line-side slot `i` (R27); in the frame in which its context frees at once, a slot still gated as
bound sends code 0x00 and aux nibble 0 (DESIGN CHOICE, log entry 22). -/
def lineWord (s : State) (i : SlotId) : Word :=
  let r := s.slot i
  let w := s.highway.received.wordOf i
  match r.gate with
  | .unused => idleWord
  | .closed => slotWord (r.toneOut.getD 0) (lineStateOf w) r.auxOut
  | .passing => slotWord (r.toneOut.getD (sampleOf w)) (lineStateOf w) r.auxOut
  | .through => w
  | .bound c =>
    let sent := ((boundContext c i s).map fun x => x.scrambler.emission.sent x.offset).getD (0, 0)
    slotWord sent.1 (lineStateOf w) sent.2

/-- The words of a frame: slot 0's, then those of slots 1 to 127. -/
def frameWords (zero : Word) (word : SlotId → Word) : SlotWords :=
  ofTable fun
    | ⟨0, _⟩ => zero
    | ⟨n + 1, h⟩ => word ⟨n, by omega⟩

/-- The words of the frame, formed when all its events have been taken (R2; DESIGN CHOICE, log entry 3). -/
def sendWords (s : State) : State :=
  s.withHighway { s.highway with
    exchangeOut := frameWords s.port.word (exchangeWord s)
    lineOut := frameWords idleWord (lineWord s) }

/-! ### The end of a frame -/

/-- The minute boundary, when it is due (R56, R167). -/
def minuteBoundary (s : State) : State :=
  if s.clock.minuteDue then recomputeBands { s with clock := { s.clock with minuteDue := false } } else s

/-- The engine's deliveries of a frame (R93). -/
def deliverKeys (s : State) : State := s |> verifyDelivery |> txKeyDelivery |> rxKeyDelivery

/-- The timers of the sign-on protocol at one slot (R67, R73). -/
def slotTimers (i : SlotId) (s : State) : State := s |> responseTimeout i |> refusalHoldEnd i

/-- The descrambler of one context (R143, R148, R152). -/
def descramblerEvents (c : ContextId) (s : State) : State :=
  s |> markerFrame c |> huntMarkerFound c |> blockRestore c

/-- The scrambler of one context (R109, R115, R121). -/
def scramblerEvents (c : ContextId) (s : State) : State :=
  s |> blockBoundary c |> rekeyIntervalExpiry c |> contextFree c

/-- The idle guards of one context (R30). -/
def guardEvents (c : ContextId) (s : State) : State := s |> clearGuardExpiry c .extension |> clearGuardExpiry c .tie

/-- The transmitter and the player of one slot (R49, R157). -/
def slotOutput (i : SlotId) (s : State) : State := s |> messageStart i |> messageSent i |> burstEnd i |> gapEnd i

/-- The end of a frame: all that fell due in it and was not taken is taken, in this order, and its words are sent.
DESIGN CHOICE (log entry 1): where the spec lets two events of a frame be taken in either order, a command takes
one before the other; what no command takes falls in this order. -/
def closeFrame (s : State) : State :=
  s |> observeLine [] []
    |> entryToLocked
    |> entryToLost
    |> forEach slotIds filteredCodeChange
    |> minuteBoundary
    |> deliverKeys
    |> engineSelect
    |> forEach slotIds slotTimers
    |> forEach contextIds descramblerEvents
    |> forEach contextIds huntTimeout
    |> forEach contextIds scramblerEvents
    |> forEach contextIds guardEvents
    |> forEach slotIds expiringIdleSignOff
    |> lossHoldExpiry
    |> forEach slotIds slotOutput
    |> responseStart
    |> responseEnd
    |> formIdleWord
    |> sendWords

/-! ### Power-on and the timebase -/

/-- The part after power-on; the commands that wait are the sender's (R185). DESIGN CHOICE (log entry 5): it acts while the
frame pulse is stopped too, and leaves the timebase awaiting, so that commands act before the pulse resumes. -/
def powerOn (s : State) : State := { State.reset with pending := s.pending }

/-- The part after the reset pin: a low level has the effect of power-on (00_scope section 3, R185), while the frame pulse
is stopped too, and leaves the timebase awaiting as power-on does (DESIGN CHOICE, log entry 5). -/
def resetPin (s : State) : State := { State.reset with pending := s.pending }

/-- A frame pulse ends the frame before it, when there is one, and begins the next (R1). -/
def exchangeFrame (pulse : ExchangePulse) (s : State) : State :=
  beginFrame pulse (if s.clock.timebase = .running then closeFrame s else s)

/-- The pulse stops: the last frame ends, and nothing changes until the pulse resumes (R1) or the part is powered or reset;
a stop before the first pulse has no effect (DESIGN CHOICE, log entry 5). -/
def framePulseStop (s : State) : State :=
  if s.clock.timebase = .running then
    let ended := closeFrame s
    { ended with clock := { ended.clock with timebase := .stopped } }
  else s

/-! ### The commands -/

/-- POWER_ON. -/
def execPowerOn (s : State) : Host.Outcome State Fault Refusal := .next (powerOn s)

/-- RESET_PIN. -/
def execResetPin (s : State) : Host.Outcome State Fault Refusal := .next (resetPin s)

/-- FRAME_PULSE_STOP. -/
def execFramePulseStop (s : State) : Host.Outcome State Fault Refusal := .next (framePulseStop s)

/-- EXCHANGE_FRAME. -/
def execExchangeFrame (pulse : ExchangePulse) (s : State) : Host.Outcome State Fault Refusal :=
  .next (exchangeFrame pulse s)

/-- MINUTE_BOUNDARY. -/
def execMinuteBoundary (s : State) : Host.Outcome State Fault Refusal := whileRunning minuteBoundary s

end Sys2Proof.Machine
end

