-- ==== Sys2Proof/Machine/Dispatch.lean ====
section
/-! DEFINITION. The effect of every command, one arm for each row of spec/opcode_table.json. -/

namespace Sys2Proof.Machine

/-- The effect of a command on everything but the queue. -/
def exec (i : Instr) (s : State) : Host.Outcome State Fault Refusal :=
  match i with
  | .powerOn => Sys2Proof.Machine.execPowerOn s
  | .resetPin => Sys2Proof.Machine.execResetPin s
  | .framePulseStop => Sys2Proof.Machine.execFramePulseStop s
  | .exchangeFrame pulse => Sys2Proof.Machine.execExchangeFrame pulse s
  | .linePulseFrame first second judgedFirst => Sys2Proof.Machine.execLinePulseFrame first second judgedFirst s
  | .noPulseFrame judgedFirst => Sys2Proof.Machine.execNoPulseFrame judgedFirst s
  | .entryToLocked => Sys2Proof.Machine.execEntryToLocked s
  | .entryToLost => Sys2Proof.Machine.execEntryToLost s
  | .lossHoldExpiry => Sys2Proof.Machine.execLossHoldExpiry s
  | .filteredCodeChange slot => Sys2Proof.Machine.execFilteredCodeChange slot s
  | .clearGuardExpiry context side => Sys2Proof.Machine.execClearGuardExpiry context side s
  | .expiringIdleSignOff slot => Sys2Proof.Machine.execExpiringIdleSignOff slot s
  | .signOn slot number serial => Sys2Proof.Machine.execSignOn slot number serial s
  | .response slot answer => Sys2Proof.Machine.execResponse slot answer s
  | .signOff slot => Sys2Proof.Machine.execSignOff slot s
  | .statusQuery slot => Sys2Proof.Machine.execStatusQuery slot s
  | .garbledMessage slot => Sys2Proof.Machine.execGarbledMessage slot s
  | .unknownHandsetMessage slot type => Sys2Proof.Machine.execUnknownHandsetMessage slot type s
  | .handsetMessageStart slot => Sys2Proof.Machine.execHandsetMessageStart slot s
  | .handsetMessageSent slot => Sys2Proof.Machine.execHandsetMessageSent slot s
  | .responseTimeout slot => Sys2Proof.Machine.execResponseTimeout slot s
  | .refusalHoldEnd slot => Sys2Proof.Machine.execRefusalHoldEnd slot s
  | .engineSelect => Sys2Proof.Machine.execEngineSelect s
  | .verifyDelivery => Sys2Proof.Machine.execVerifyDelivery s
  | .txKeyDelivery => Sys2Proof.Machine.execTxKeyDelivery s
  | .rxKeyDelivery => Sys2Proof.Machine.execRxKeyDelivery s
  | .minuteBoundary => Sys2Proof.Machine.execMinuteBoundary s
  | .blockBoundary context => Sys2Proof.Machine.execBlockBoundary context s
  | .rekeyIntervalExpiry context => Sys2Proof.Machine.execRekeyIntervalExpiry context s
  | .contextFree context => Sys2Proof.Machine.execContextFree context s
  | .huntMarkerFound context => Sys2Proof.Machine.execHuntMarkerFound context s
  | .markerFrame context => Sys2Proof.Machine.execMarkerFrame context s
  | .blockRestore context => Sys2Proof.Machine.execBlockRestore context s
  | .huntTimeout context => Sys2Proof.Machine.execHuntTimeout context s
  | .burstEnd slot => Sys2Proof.Machine.execBurstEnd slot s
  | .gapEnd slot => Sys2Proof.Machine.execGapEnd slot s
  | .rejectedMessage => Sys2Proof.Machine.execRejectedMessage s
  | .unknownRequest code body => Sys2Proof.Machine.execUnknownRequest code body s
  | .responseStart => Sys2Proof.Machine.execResponseStart s
  | .responseEnd => Sys2Proof.Machine.execResponseEnd s
  | .getStatus body => Sys2Proof.Machine.execGetStatus body s
  | .setTime body => Sys2Proof.Machine.execSetTime body s
  | .setTimers body => Sys2Proof.Machine.execSetTimers body s
  | .reset body => Sys2Proof.Machine.execReset body s
  | .eraseSecrets body => Sys2Proof.Machine.execEraseSecrets body s
  | .setSlot body => Sys2Proof.Machine.execSetSlot body s
  | .readSlot body => Sys2Proof.Machine.execReadSlot body s
  | .forceSignOff body => Sys2Proof.Machine.execForceSignOff body s
  | .loadEntry body => Sys2Proof.Machine.execLoadEntry body s
  | .deleteEntry body => Sys2Proof.Machine.execDeleteEntry body s
  | .readDirectory body => Sys2Proof.Machine.execReadDirectory body s
  | .setStanding body => Sys2Proof.Machine.execSetStanding body s
  | .loadClass body => Sys2Proof.Machine.execLoadClass body s
  | .loadVisitorRule body => Sys2Proof.Machine.execLoadVisitorRule body s
  | .setVisitorMasks body => Sys2Proof.Machine.execSetVisitorMasks body s
  | .setEngineLevels body => Sys2Proof.Machine.execSetEngineLevels body s
  | .loadSite body => Sys2Proof.Machine.execLoadSite body s
  | .clearSite body => Sys2Proof.Machine.execClearSite body s
  | .openPrivacy body => Sys2Proof.Machine.execOpenPrivacy body s
  | .closePrivacy body => Sys2Proof.Machine.execClosePrivacy body s
  | .rekey body => Sys2Proof.Machine.execRekey body s
  | .readContext body => Sys2Proof.Machine.execReadContext body s
  | .loadTone body => Sys2Proof.Machine.execLoadTone body s
  | .setToneFunctions body => Sys2Proof.Machine.execSetToneFunctions body s
  | .playTone body => Sys2Proof.Machine.execPlayTone body s
  | .stopTone body => Sys2Proof.Machine.execStopTone body s
  | .setEventMask body => Sys2Proof.Machine.execSetEventMask body s
  | .readEvents body => Sys2Proof.Machine.execReadEvents body s
  | .readRecords body => Sys2Proof.Machine.execReadRecords body s

end Sys2Proof.Machine
end

