-- ==== Sys2Proof/Safety.lean ====
section
/-! DEFINITION. What counts as a sound state of the 3160, in the terms that statements use: when a command acts,
what an answered request leaves at the port, and the laws of the spec that hold in every sound state. -/

namespace Sys2Proof.Safety

open Sys2Proof.Machine

/-! ### When a command acts -/

/-- The exchange-side frame pulse has not stopped (R1). -/
def Running (s : State) : Prop := s.clock.timebase ≠ .stopped

/-- A request that completes now finds a place in the holding buffer, and acts (R180). -/
def Accepts (s : State) : Prop := Running s ∧ s.port.holding.length < Config.holdingSize

/-- A handset message that completes at slot `i` now is handed over (R37, R43). -/
def Arrives (i : SlotId) (s : State) : Prop :=
  Running s ∧ (s.slot i).takesNibbles = true ∧ lineDelivers s = true

/-- The state after a request has acted and left its effect in `s`: its code, status and body are held for the
response, and nothing else of `s` changes but the assembler, which hunts (R178 to R180). -/
def answered (code : Byte) (status : Status) (body : List Byte) (s : State) : State :=
  { s with port := { s.port with
      assembler := .hunt none
      holding := s.port.holding ++ [{ code := code, status := status.code, body := body }] } }

/-- The frame of `s` delivers nothing (R9): every filter holds while the idle durations count on, every descrambler
takes the idle word, and nothing but the Highway Interface, the events, the slots and the contexts may change. -/
structure DeliversNothing (s t : State) : Prop where
  slots : ∀ i, t.slot i = { s.slot i with
    idle := if (s.slot i).filtered = 0 then min ((s.slot i).idle + 1) 65535 else 0 }
  contexts : ∀ c, t.context c = (s.context c).map (Context.takeWord idleWords)
  rest : t = { s with highway := t.highway, events := t.events, slots := t.slots, contexts := t.contexts }

/-- What `t` holds once NOTICE `code` and the tone of the function with entry `entry` have been asked for at slot `i`
of `u`: nothing on a slot of another kind; else the message, or TX-OVERFLOW on a full queue, and the tone (R48, R164). -/
structure Noticed (i : SlotId) (code : Byte) (entry : Option ToneId) (u t : State) : Prop where
  rest : t = { u with slots := t.slots, events := t.events }
  others : ∀ j, j ≠ i → t.slot j = u.slot j
  slot : t.slot i = { u.slot i with
    txQueue := (t.slot i).txQueue, tone := (t.slot i).tone, pendingTone := (t.slot i).pendingTone }
  deaf : (u.slot i).kind ≠ .extension → t = u
  queued : (u.slot i).kind = .extension → (u.slot i).txQueue.length < 4 → t.events = u.events ∧
    (t.slot i).txQueue = (u.slot i).txQueue ++ [{ type := 0x25, body := [code] }]
  full : (u.slot i).kind = .extension → 4 ≤ (u.slot i).txQueue.length →
    t.events = (post .txOverflow (some i) none none 0x25 u).events ∧ (t.slot i).txQueue = (u.slot i).txQueue
  silent : entry = none → (t.slot i).tone = (u.slot i).tone ∧ (t.slot i).pendingTone = (u.slot i).pendingTone
  played : ∀ d x, entry = some d → u.tones.descriptors[d] = some x → (u.slot i).kind = .extension →
    (u.slot i).tone = none →
    (t.slot i).tone = some { descriptor := x, index := d, begun := 1, phase := .burst 0 }

/-- Privacy established for context `c`, which is `x` in `u`: it counts as reached, PRIVACY-UP is posted, and its
extension hears of it (R107). -/
def Establishes (c : ContextId) (x : Context) (u t : State) : Prop :=
  Noticed x.ext 0x01 u.tones.functions.privacyOn
    (post .privacyUp (some x.tie) (some c) (some x.index) 0 (u.withContext c (some { x with reached := true }))) t

/-- The test of R107 on context `c`, which is `x` in `u`: privacy is established when its descrambler is in SYNC and
its scrambler in RUNNING or ANNOUNCING for the first time, and nothing changes otherwise. -/
structure TestsPrivacy (c : ContextId) (x : Context) (u t : State) : Prop where
  established : x.phase ≠ .closing → x.reached = false → x.descrambler.state = .sync →
    x.scrambler.state = .running ∨ x.scrambler.state = .announcing → Establishes c x u t
  otherwise : x.phase = .closing ∨ x.reached = true ∨ x.descrambler.state ≠ .sync ∨
    (x.scrambler.state ≠ .running ∧ x.scrambler.state ≠ .announcing) → t = u

/-- Context `c`, which is `x` in `u`, enters PRESYNC with a good count of 1 and its descrambler otherwise `d`, on a marker
of counter `n`; at a presync count of 1 it passes on to SYNC, which accepts the block (R149). -/
structure JoinsPresync (c : ContextId) (x : Context) (n : Word) (d : Descrambler) (u t : State) : Prop where
  waits : 2 ≤ x.profile.presync →
    t = u.withContext c (some { x with descrambler := { d with state := .presync, good := 1 } })
  passes : x.profile.presync ≤ 1 →
    let y : Context := { x with descrambler := { d with
      state := .sync, good := 1, miss := 0, hunt := none
      accepted := d.held.map fun k => { key := k, counter := n } } }
    TestsPrivacy c y (u.withContext c (some y)) t

/-- A descrambler `d` once it has taken the announcement of marker `m`: the pending key that it names takes the new
countdown, and any other gives way to the announced key (R145). -/
def announcedTo (m : Marker) (d : Descrambler) : Descrambler :=
  let announced : PendingKey :=
    { nonce := m.nonce, epoch := m.epoch + 1, countdown := some m.countdown.toNat, words := none }
  match d.pending with
  | none => { d with pending := some announced }
  | some p =>
    if p.nonce = m.nonce ∧ p.epoch = m.epoch + 1 then
      { d with pending := some { p with countdown := some m.countdown.toNat } }
    else { d with pending := some announced, sighted := false }

/-- The engine `e` once context `c`, which is `x`, has taken the announcement of marker `m`: an RX-KEY for a key that was
not pending (R145). -/
def announcedAsks (c : ContextId) (x : Context) (m : Marker) (e : Engine) : Engine :=
  if x.descrambler.pending.any fun p => p.nonce == m.nonce && p.epoch == m.epoch + 1 then e
  else (e.withdraw (Job.isRxOf c)).post (.rxKey c x.site m.nonce (m.epoch + 1))

/-- What `t` holds once the refusal of the sign-on at slot `i` of `u` has been concluded (steps 3 to 6 of R66). -/
structure Refused (i : SlotId) (reason : Reason) (index : Option RecordId) (u t : State) : Prop where
  rest : t = { u with slots := t.slots, events := t.events }
  others : ∀ j, j ≠ i → t.slot j = u.slot j
  slot : t.slot i = { u.slot i with
    admission := if u.timers.refusalHold = 0 then .locked else .hold
    refusalHold := if u.timers.refusalHold = 0 then none else some { elapsed := 0, due := false }
    txQueue := (t.slot i).txQueue, tone := (t.slot i).tone, pendingTone := (t.slot i).pendingTone }
  queued : (u.slot i).kind = .extension → (u.slot i).txQueue.length < 4 →
    (t.slot i).txQueue = (u.slot i).txQueue ++ [{ type := 0x23, body := [reason.code] }] ∧
      t.events = (post .signOnRefused (some i) none index reason.code u).events
  full : (u.slot i).kind = .extension → 4 ≤ (u.slot i).txQueue.length →
    (t.slot i).txQueue = (u.slot i).txQueue ∧ t.events =
      (post .signOnRefused (some i) none index reason.code (post .txOverflow (some i) none none 0x23 u)).events

/-- A failure against record `r`, which is `x`, counted in the state that `base` gives with the record it is handed: 8
more faults, SUSPECT from 128 up; past 255 the record is BARRED and its admitted slot signed off (R76, R78). -/
def failureCounted (r : RecordId) (x : Record) (base : Record → State) : State :=
  if x.faults + 8 ≤ 255 then
    let y : Record := { x with
      faults := x.faults + 8, standing := if 128 ≤ x.faults + 8 then .suspect else x.standing }
    if y.standing = x.standing then base y else post .standingChanged none none (some r) 1 (base y)
  else
    let barred := post .standingChanged none none (some r) 2 (base { x with faults := 255, standing := .barred })
    match x.admittedSlot with
    | none => barred
    | some a => signOffSlot .barred a barred

/-- What slot record `t` gives in the frame that `r` enters: its transmitter a nibble (R49), its player a code in a
burst and none in a gap (R157). -/
structure SlotGives (r t : Slot) : Prop where
  mute : r.kind ≠ .extension → t.transmitter = r.transmitter ∧ t.startDue = false ∧ t.auxOut = 0
  idle : r.kind = .extension → r.transmitter = .idle →
    t.transmitter = .idle ∧ t.auxOut = 0 ∧ t.startDue = decide (r.txQueue ≠ [])
  sending : ∀ k m rest, r.kind = .extension → r.transmitter = .sending k → r.txQueue = m :: rest →
    t.transmitter = .sending (k + 1) ∧ t.auxOut = (handsetNibbles m).getD k 0 ∧ t.startDue = false
  gap : r.kind = .extension → r.transmitter = .gap → t.transmitter = .idle ∧ t.auxOut = 0 ∧ t.startDue = false
  silent : r.tone = none → t.tone = none ∧ t.toneOut = none
  burst : ∀ x k, r.tone = some x → x.phase = .burst k →
    t.tone = some { x with phase := .burst (k + 1) } ∧ t.toneOut = some (burstCode x.descriptor k)
  pause : ∀ x k, r.tone = some x → x.phase = .gap k →
    t.tone = some { x with phase := .gap (k + 1) } ∧ t.toneOut = none

/-! ### What the line side's words reach -/

/-- Slot record `r` with its idle duration brought up to date (R24). -/
def idleCounted (r : Slot) : Slot := { r with idle := if r.filtered = 0 then min (r.idle + 1) 65535 else 0 }

/-- Slot record `r` in a frame whose line side brings it the word `w`: its filter acts when the word is delivered and no
SET-SLOT of this frame has set it afresh (log entry 20), and its idle duration counts (R22 to R24, R36). A count that
reaches 8N makes the change due, and the change brings the idle duration up to date (log entry 1). -/
def supervised (delivers : Bool) (w : Word) (r : Slot) : Slot :=
  let x := lineStateOf w
  if delivers = false ∨ r.filterFresh = true then idleCounted r
  else if r.filterLength = 0 then idleCounted { r with filtered := x, candidate := x, persistence := 0 }
  else if x = r.filtered then idleCounted { r with candidate := x, persistence := 0 }
  else if x ≠ r.candidate then idleCounted { r with candidate := x, persistence := 1 }
  else if r.persistence + 1 < 8 * r.filterLength then idleCounted { r with persistence := r.persistence + 1 }
  else { r with persistence := r.persistence + 1, changeDue := true }

/-- Slot record `r` once its assembler, in HUNT, has taken the aux nibble of the delivered word `w`; it takes none on a
slot that is not EXTENSION now or was not at the frame's start (R34, R37, R39). -/
def hears (delivers : Bool) (w : Word) (r : Slot) : Slot :=
  match r.assembler with
  | .hunt previous =>
    if delivers = true ∧ r.kind = .extension ∧ (r.gate = .closed ∨ r.gate = .passing) then
      { r with assembler := if previous = some 0xA ∧ auxOf w = 5 then .length none else .hunt (some (auxOf w)) }
    else r
  | _ => r

/-- MARKER_FRAME and HUNT_MARKER_FOUND, commanded for each of the contexts in turn, lead from `u` to `w`. -/
def Judged : List ContextId → State → State → Prop
  | [], u, w => w = u
  | c :: rest, u, w =>
    ∃ v v', exec (.markerFrame c) u = .next v ∧ exec (.huntMarkerFound c) v = .next v' ∧ Judged rest v' w

/-- The assemblers take the aux nibbles of the delivered `words` in ascending order of slot, so that a message that ends
in this frame acts (R37, R39 to R41; log entry 7). -/
def assembled (delivers : Bool) (words : SlotWords) (s : State) : State :=
  slotIds.foldl (fun t i =>
    if delivers = true ∧ (t.slot i).kind = .extension ∧ ((t.slot i).gate = .closed ∨ (t.slot i).gate = .passing) then
      takeNibble i (auxOf (words.wordOf i)) t
    else t) s

/-- The frame of `s` leads to `t`, with the Highway Interface `h` before a slip is counted: the descramblers of `first`
take their words and have their markers judged, then a slip of code `slip` acts, then the other descramblers take their
words (R153; log entry 9). The slots are supervised before, and the assemblers take their nibbles after. -/
def LineTaken (first : List ContextId) (h : Highway) (slip : Option Byte) (s t : State) : Prop :=
  ∃ u w v, Judged first u w ∧
    u = { s with highway := h, slots := u.slots, contexts := u.contexts } ∧
    (∀ i, (s.slot i).changeDue = false →
      u.slot i = supervised (!h.lossDue) (h.lineWords.wordOf i) (s.slot i)) ∧
    (∀ c, u.context c = if c ∈ first then (s.context c).map (Context.takeWord h.lineWords) else s.context c) ∧
    v = { w with
      highway := { w.highway with
        slipCount := if slip.isSome then min (w.highway.slipCount + 1) 65535 else w.highway.slipCount }
      events := match slip with
        | none => w.events
        | some code => (post .slip none none none code w).events
      contexts := v.contexts } ∧
    (∀ c, v.context c = (w.context c).map fun x =>
      let y := if slip.isSome then x.slipped else x
      if c ∈ first then y else y.takeWord h.lineWords) ∧
    t = assembled (!h.lossDue) h.lineWords v

/-! ### What a free leaves -/

/-- The state after context `c`, which is `x`, has been freed in `s` with a close cause: its bindings are gone, its call
record is stored, and CONTEXT-CLOSED is posted (steps 1 to 4 and 6 of R110). -/
def afterFree (c : ContextId) (x : Context) (cause : Option CloseCause) (s : State) : State :=
  let stored := storeRecord
    { tie := x.tie, ext := x.ext, index := x.index, number := x.number, site := x.site
      openStamp := x.openStamp, closeStamp := s.clock.reading, duration := x.elapsed / 8000, cause := cause
      rekeys := x.rekeys, syncLosses := x.syncLosses, reached := x.reached } s
  let code : Byte := match cause with
    | none => 0xFF
    | some k => byte k.code
  let untied := (post .contextClosed (some x.tie) (some c) (some x.index) code stored).withSlot x.tie
    { s.slot x.tie with boundContext := none }
  (untied.withSlot x.ext { untied.slot x.ext with
    partners := (untied.slot x.ext).partners.filter (· != c) }).withContext c none

/-- Context `c`, which is `x`, has been freed in `s` with a close cause: its extension hears PRIVACY-OFF when privacy was
reached, unless its partner is gone or the cause is LINE-LOSS, RESET or ERASED (R110). -/
structure Freed (c : ContextId) (x : Context) (cause : Option CloseCause) (s t : State) : Prop where
  heard : x.reached = true → x.gone = false → cause ≠ some .lineLoss → cause ≠ some .reset → cause ≠ some .erased →
    Noticed x.ext 0x02 s.tones.functions.privacyOff (afterFree c x cause s) t
  unheard : x.reached = false ∨ x.gone = true ∨ cause = some .lineLoss ∨ cause = some .reset ∨ cause = some .erased →
    t = afterFree c x cause s

/-- The contexts of `cs` that `frees` selects, freed in turn with the close causes that `cause` gives; for their call
records and CONTEXT-CLOSED events. -/
def freedInTurn (frees : Context → Bool) (cause : Context → Option CloseCause) (cs : List ContextId) (s : State) : State :=
  cs.foldl (fun u c => match s.context c with
    | none => u
    | some x => if frees x then afterFree c x (cause x) u else u) s

/-! ### Laws of sound states -/

/-- No queue holds more than its size (R47, R61, R171, R174, R180). -/
structure QueuesBounded (s : State) : Prop where
  events : s.events.queue.length ≤ 32
  records : s.records.queue.length ≤ 64
  messages : ∀ i, (s.slot i).txQueue.length ≤ 4
  requests : s.port.holding.length ≤ 2
  visitors : s.visitors.count ≤ 32

/-- A set overflow mark stands with an event, a discarded-record count other than 0 with a record (R171, R176). -/
structure MarksBacked (s : State) : Prop where
  overflow : s.events.overflow = true → s.events.queue ≠ []
  discarded : s.records.discarded ≠ 0 → s.records.queue ≠ []

/-- One request of a requester and kind on the list; the operation in flight is that of the one request marked in
flight, in LOAD or ROUND (R86, R87, R89). -/
structure EngineSound (e : Engine) : Prop where
  distinct : e.requests.Pairwise fun p q => Job.sameRequester p.job q.job = false
  marked : ∀ q ∈ e.requests, q.inFlight = true → e.operation.map Operation.job = some q.job
  listed : ∀ op, e.operation = some op → ∃ q ∈ e.requests, q.inFlight = true ∧ q.job = op.job
  busy : e.operation.isSome → e.phase = .load ∨ e.phase = .round
  idle : e.phase = .load ∨ e.phase = .round → e.operation.isSome ∨ e.toRest = true
  resting : e.toRest = true → e.operation = none ∧ e.phase ≠ .idle

/-- The line-side timing state lies in its ranges: in LOCKED the depth counts the frames held, and the loss hold timer
runs in LOST alone, from 0 to 64,000 (R4, R11, R13). The last three clauses speak of the model's own marks (log entry
1), which name the frame in which an entry or the expiry falls due. -/
structure LineInRange (s : State) : Prop where
  good : s.highway.goodCount ≤ 64
  miss : s.highway.missRun ≤ 16
  depth : s.highway.depth ≤ 2
  slips : s.highway.slipCount ≤ 65535
  window : 2 ≤ s.highway.lossWindow ∧ s.highway.lossWindow ≤ 16
  limit : 4000 ≤ s.highway.lossHoldLimit ∧ s.highway.lossHoldLimit ≤ 64000
  store : s.highway.timing = .locked → s.highway.store.length = s.highway.depth
  hold : ∀ x, s.highway.lossHold = some x → s.highway.timing = .lost ∧ x.elapsed ≤ 64000
  expiring : ∀ x, s.highway.lossHold = some x → x.elapsed = 64000 →
    x.due = true ∧ s.clock.timebase = .running
  locking : s.highway.lockDue = true →
    s.highway.timing = .unstable ∧ s.highway.lossDue = false ∧ s.highway.observed = true
  losing : s.highway.lossDue = true → s.highway.timing ≠ .lost ∧ s.highway.observed = true

/-- A tie slot's bound context and an extension slot's partner list are the contexts that name them (R28). -/
structure BindingsSound (s : State) : Prop where
  context : ∀ c x, s.context c = some x →
    (s.slot x.tie).kind = .tie ∧ (s.slot x.tie).boundContext = some c ∧
      (s.slot x.ext).kind = .extension ∧ c ∈ (s.slot x.ext).partners
  bound : ∀ i c, (s.slot i).boundContext = some c → ∃ x, s.context c = some x ∧ x.tie = i
  partner : ∀ i c, c ∈ (s.slot i).partners → ∃ x, s.context c = some x ∧ x.ext = i
  places : ∀ i, (s.slot i).partners.Nodup ∧ (s.slot i).partners.length ≤ 4

/-- The admission fields of the slots, the admitted and pending slots of the directory and the visitor count tell
one story (R51, R61, R63). -/
structure AdmissionSound (s : State) : Prop where
  admitted : ∀ i, (s.slot i).isAdmitted = true →
    (s.slot i).kind = .extension ∧ (s.slot i).number.isSome ∧ (s.slot i).admissionClass.isSome ∧
      ((s.slot i).boundIndex.isSome ↔ (s.slot i).visitor = false)
  absent : ∀ i, (s.slot i).isAdmitted = false →
    (s.slot i).boundIndex = none ∧ (s.slot i).number = none ∧ (s.slot i).admissionClass = none ∧
      (s.slot i).visitor = false
  signing : ∀ i, (s.slot i).signingOn = true →
    (s.slot i).kind = .extension ∧ (s.slot i).challenge.isSome ∧
      ∃ r x, s.record r = some x ∧ x.pendingSlot = some i
  pending : ∀ r x i, s.record r = some x → x.pendingSlot = some i → (s.slot i).signingOn = true
  onePending : ∀ r q x y i, s.record r = some x → s.record q = some y →
    x.pendingSlot = some i → y.pendingSlot = some i → r = q
  bound : ∀ r i, (s.slot i).boundIndex = some r ↔ ∃ x, s.record r = some x ∧ x.admittedSlot = some i
  visitors : s.visitors.count = slotIds.countP fun i => (s.slot i).visitor

/-- Every context in OPENING or OPEN has as partner an admitted slot bound to its record, which is not BARRED (R114),
and every context in CLOSING has a scrambler in CLEARING (R108). -/
structure CallsTrusted (s : State) : Prop where
  trusted : ∀ c x, s.context c = some x → x.phase ≠ .closing →
    (s.slot x.ext).isAdmitted = true ∧ (s.slot x.ext).boundIndex = some x.index ∧
      ∃ y, s.record x.index = some y ∧ y.standing ≠ .barred
  clearing : ∀ c x, s.context c = some x → x.phase = .closing → x.scrambler.state = .clearing

/-- A BARRED record's counter is 255; any other is SUSPECT exactly from 128 up (R76). -/
def StandingsSound (s : State) : Prop :=
  ∀ r x, s.record r = some x → x.faults ≤ 255 ∧ (x.standing = .barred → x.faults = 255) ∧
    (x.standing ≠ .barred → (x.standing = .suspect ↔ 128 ≤ x.faults))

/-- A reading within the ranges of R166. -/
def LegalReading (r : Reading) : Prop :=
  r.day ≤ 65535 ∧ r.hour ≤ 23 ∧ r.minute ≤ 59 ∧ r.second ≤ 59 ∧ r.frame ≤ 7999

/-- Frames from day 0, 00:00:00 to a reading (R166). -/
def position (r : Reading) : Nat :=
  (((r.day * 24 + r.hour) * 60 + r.minute) * 60 + r.second) * 8000 + r.frame

end Sys2Proof.Safety
end

