-- ==== Sys2Proof/Certificates/Slice0/Obligations.lean ====
section
/-! DEFINITION. The statements for the provers. `Running`, `Accepts`, `Arrives`, `answered` and the other
predicates named are those of Sys2Proof/Safety.lean; a statement about a command gives the whole next state, or names what it leaves alone. The
fields marked "model's own" in Machine/State.lean are the model's choice (log entries 1 and 3). -/

open Sys2Proof Sys2Proof.Machine Sys2Proof.Safety

/-! ### The machine and its frame -/

/-- A step runs the command at the front of the queue on the state with the queue's rest; with no command waiting
the block idles, which is the model's choice (log entry 4). -/
def Obligations.StepTakesTheFrontCommand : Prop :=
  (∀ (c : Instr) (rest : List Instr) (s : State), s.pending = c :: rest →
    step s = exec c { s with pending := rest }) ∧
  (∀ s : State, s.pending = [] → step s = .next s)

/-- No command takes another out of the queue or puts one in. -/
def Obligations.CommandsKeepTheQueue : Prop :=
  ∀ (c : Instr) (s t : State), exec c s = .next t → t.pending = s.pending

/-- R1: the stop ends the frame in progress; while the pulse is stopped nothing but power and the pulse itself has
an effect. The model's choices: a frame ends before the stop takes hold (log entry 1); power-on and the reset pin act
while the pulse is stopped (log entry 5). -/
def Obligations.StoppedPulseHoldsTheState : Prop :=
  (∀ s : State, s.clock.timebase = .running →
    exec .framePulseStop s =
      .next { closeFrame s with clock := { (closeFrame s).clock with timebase := .stopped } }) ∧
  (∀ (c : Instr) (s : State), s.clock.timebase = .stopped → c ≠ .powerOn → c ≠ .resetPin →
    (∀ p, c ≠ .exchangeFrame p) → exec c s = .next s)

/-- Power-on and the reset pin leave every block at its power-on value and the queue of commands alone,
while the frame pulse is stopped too (the model's choice, log entry 5). The first frame's upstream word is 0x0000, and no
post of that frame shows in it. -/
def Obligations.PowerOnClearsThePart : Prop :=
  ∀ s : State, ∃ t, exec .powerOn s = .next t ∧ exec .resetPin s = .next t ∧ t.pending = s.pending ∧
    (t.highway.timing = .lost ∧ t.highway.goodCount = 0 ∧ t.highway.missRun = 0 ∧ t.highway.lossHold = none ∧
      t.highway.depth = 1 ∧ t.highway.slipCount = 0 ∧ t.highway.lossWindow = 4 ∧ t.highway.lossHoldLimit = 16000) ∧
    (∀ i, (t.slot i).kind = .unused ∧ (t.slot i).filterLength = 8 ∧ (t.slot i).filtered = 0 ∧
      (t.slot i).candidate = 0 ∧ (t.slot i).persistence = 0 ∧ (t.slot i).idle = 0 ∧
      (t.slot i).boundContext = none ∧ (t.slot i).partners = [] ∧ (t.slot i).garbled = 0 ∧
      (t.slot i).txQueue = [] ∧ (t.slot i).transmitter = .idle) ∧
    (∀ r, t.record r = none) ∧
    (∀ k, t.classRecord k = { privacy := false, bandStart := 0, bandEnd := 0, inBand := true }) ∧
    (∀ v : Fin 8, t.visitors.rules[v] = { inUse := false, pattern := 0xFFFFFF, mask := .a, cls := 0 }) ∧
    t.visitors.maskA = 0 ∧ t.visitors.maskB = 0 ∧ t.visitors.count = 0 ∧
    t.timers = { responseTimeout := 3200, refusalHold := 16000 } ∧
    (t.engine.phase = .idle ∧ t.engine.operation = none ∧ t.engine.requests = [] ∧ t.engine.rxLevel = 0 ∧
      t.engine.txLevel = 1 ∧ t.engine.verifyLevel = 2 ∧ t.engine.nonce = 0) ∧
    (∀ i : SiteId, t.sites[i] = none) ∧ (∀ c, t.context c = none) ∧
    (∀ d : ToneId, t.tones.descriptors[d] = none) ∧ (∀ f, t.tones.functions.entry f = none) ∧
    t.clock.reading = { day := 0, hour := 0, minute := 0, second := 0, frame := 0 } ∧
    t.events = { queue := [], mask := 0x7FF, overflow := false } ∧ t.records = { queue := [], discarded := 0 } ∧
    (t.port.assembler = .hunt none ∧ t.port.holding = [] ∧ t.port.transmitter = .idle ∧ t.port.rejected = 0 ∧
      t.port.overrun = false ∧ t.port.word = 0) ∧
    (∀ p, ∃ u, exec (.exchangeFrame p) t = .next u ∧ u.port.transmitter = .idle ∧ u.port.word = 0 ∧
      u.port.startDue = false ∧ u.port.idleWordDue = false)

/-- A frame pulse first ends the frame before it, when the pulse runs, and takes the words of the exchange side. The clock
advances, but for the first pulse after power-on; the engine runs a round in LOAD or ROUND, leaves REST for IDLE, and
enters REST after a completion or an abort, and every request it holds becomes eligible; the timers, the loss hold and
every context's counts advance by one frame; each slot's gating is fixed by its record, its transmitter gives a nibble and
its player a code; the upstream word is formed, the first after power-on 0x0000; last, the downstream bytes are taken,
which change the request assembler alone when they are idle. The model's choices: a frame ends with what no
command has taken (closeFrame, log entry 1); the fields marked as the model's own, among them the gating and the time at
which an idle word is formed (log entries 1 and 3); the clock of the first pulse and of a resumed one, and that no response begins with the first pulse (log entry 5); the
states in which the rekey elapsed counter rises (log entry 11); downstream bytes act at the frame's start (log entry
7). -/
def Obligations.FramePulseAdvancesCounters : Prop :=
  ∀ (ws : SlotWords) (last : Bool) (s : State),
    let ended := if s.clock.timebase = .running then closeFrame s else s
    ∃ t, exec (.exchangeFrame { words := ws, idleWordLast := last }) s = .next (takeDownstream ws[0] t) ∧
      (∀ p, t.port.assembler = .hunt p → ws[0] = idleWord →
        takeDownstream ws[0] t = t.withPort { t.port with assembler := .hunt (some 0) }) ∧
      t = { ended with
        clock := t.clock, highway := t.highway, slots := t.slots, contexts := t.contexts, port := t.port
        engine := t.engine } ∧
      t.engine = { ended.engine with
        requests := ended.engine.requests.map fun q => { q with eligible := true }
        toRest := false
        phase := if ended.engine.toRest = true then .rest
          else if ended.engine.phase = .load ∨ ended.engine.phase = .round then .round else .idle
        operation :=
          if ended.engine.toRest = false ∧ (ended.engine.phase = .load ∨ ended.engine.phase = .round) then
            ended.engine.operation.map Operation.runRound
          else ended.engine.operation } ∧
      t.clock.timebase = .running ∧
      t.clock.reading = (if s.clock.timebase = .awaiting then s.clock.reading else s.clock.reading.advance) ∧
      (s.clock.timebase ≠ .awaiting → t.clock.minuteDue = s.clock.reading.endsMinute) ∧
      t.highway = { ended.highway with
        received := ws, observed := false, lockDue := false, lossDue := false, entered := false
        lossHold := ended.highway.lossHold.map fun x =>
          { elapsed := x.elapsed + 1, due := decide (ended.highway.lossHoldLimit ≤ x.elapsed + 1) } } ∧
      (ended.port.transmitter = .idle → s.clock.timebase = .awaiting → t.port = { ended.port with
        word := 0, startDue := false, idleWordDue := false }) ∧
      (ended.port.transmitter = .idle → s.clock.timebase ≠ .awaiting → t.port = { ended.port with
        word := if ended.events.queue = [] ∧ ended.records.queue = [] then 0 else 1
        startDue := decide (ended.port.holding ≠ []), idleWordDue := last }) ∧
      (∀ bytes, ended.port.transmitter = .sending bytes → t.port = { ended.port with
        word := responseWord bytes, transmitter := .sending (bytes.drop 2), startDue := false, idleWordDue := false }) ∧
      (∀ i, let r := ended.slot i
        t.slot i = { r with
          gate := (t.slot i).gate, filterFresh := false, transmitter := (t.slot i).transmitter
          startDue := (t.slot i).startDue, auxOut := (t.slot i).auxOut, tone := (t.slot i).tone
          toneOut := (t.slot i).toneOut
          responseTimer := r.responseTimer.map fun x =>
            { elapsed := x.elapsed + 1, due := decide (ended.timers.responseTimeout ≤ x.elapsed + 1) }
          refusalHold := r.refusalHold.map fun x =>
            { elapsed := x.elapsed + 1, due := decide (ended.timers.refusalHold ≤ x.elapsed + 1) } } ∧
        SlotGives r (t.slot i) ∧
        (r.kind = .unused → (t.slot i).gate = .unused) ∧
        (r.kind = .extension → (t.slot i).gate =
          if r.admission = .admitted ∨ r.admission = .expiring then .passing else .closed) ∧
        (r.kind = .tie → r.boundContext = none → (t.slot i).gate = .through) ∧
        (∀ c, r.kind = .tie → r.boundContext = some c → (t.slot i).gate = .bound c) ∧
        (r.kind = .publicTrunk → (t.slot i).gate = .through)) ∧
      (∀ c, ended.context c = none → t.context c = none) ∧
      (∀ c x, ended.context c = some x →
        let o := if x.offset + 1 < 8 * x.profile.segment then x.offset + 1 else 0
        let code := sampleOf (ws.wordOf x.tie)
        t.context c = some { x with
          elapsed := min (x.elapsed + 1) 4294967295
          rekeyElapsed :=
            if x.scrambler.state = .running ∨ x.scrambler.state = .rekeying ∨ x.scrambler.state = .announcing then
              min (x.rekeyElapsed + 1) 691200000
            else x.rekeyElapsed
          offset := o, boundaryDue := decide (o = 0)
          scrambler := { x.scrambler with
            collected := if o = 0 then x.scrambler.collection else x.scrambler.collected
            collection := if o = 0 then [code] else x.scrambler.collection ++ [code]
            next := x.scrambler.next.map fun n => { n with fresh := false } }
          descrambler := { x.descrambler with
            hunt := x.descrambler.hunt.map (· + 1), markerDue := false, restoreDue := false } })

/-- The clock's advance counts frames modulo 65,536 days, stays in its ranges, and is a minute boundary exactly when
the minute changes. -/
def Obligations.ClockCountsFrames : Prop :=
  ∀ r : Reading, LegalReading r → LegalReading r.advance ∧
    position r.advance = (position r + 1) % (65536 * 24 * 60 * 60 * 8000) ∧
    (r.endsMinute = true ↔ r.advance.minute ≠ r.minute)

/-! ### Laws that every step keeps -/

/-- No step lets a queue pass its size; and after every step a set overflow mark stands with an event, and a
discarded-record count other than 0 with a record. -/
def Obligations.QueuesStayBounded : Prop :=
  (∀ s t : State, QueuesBounded s → step s = .next t → QueuesBounded t) ∧
  (∀ s t : State, MarksBacked s → step s = .next t → MarksBacked t)

/-- After every step the request list holds one request of a requester and kind, and the operation in flight is that
of the one request marked so. -/
def Obligations.EngineStaysSound : Prop :=
  ∀ s t : State, EngineSound s.engine → step s = .next t → EngineSound t.engine

/-- Every step keeps the line-side timing state in its ranges, the loss hold timer of 0 to 64,000 frames among them. -/
def Obligations.LineStaysInRange : Prop :=
  ∀ s t : State, LineInRange s → step s = .next t → LineInRange t

/-- Every step keeps the bindings of tie slots and the partner lists of extension slots equal to what the contexts name. -/
def Obligations.BindingsStaySound : Prop := ∀ s t : State, BindingsSound s → step s = .next t → BindingsSound t

/-- Every step keeps the admissions of slots, directory and visitor count in agreement. -/
def Obligations.AdmissionStaysSound : Prop := ∀ s t : State, AdmissionSound s → step s = .next t → AdmissionSound t

/-- Every step keeps every context in OPENING or OPEN with an admitted partner whose record is not BARRED, and every
context in CLOSING with a scrambler in CLEARING. -/
def Obligations.CallsStayTrusted : Prop :=
  ∀ s t : State, AdmissionSound s → BindingsSound s → CallsTrusted s → step s = .next t → CallsTrusted t

/-- Every step keeps every record's standing the one its fault counter gives. -/
def Obligations.StandingsFollowTheCounter : Prop :=
  ∀ s t : State, StandingsSound s → step s = .next t → StandingsSound t

/-- The state after reset meets every law above. -/
def Obligations.ResetIsSound : Prop :=
  QueuesBounded State.reset ∧ MarksBacked State.reset ∧ EngineSound State.reset.engine ∧
    LineInRange State.reset ∧ BindingsSound State.reset ∧ AdmissionSound State.reset ∧
    CallsTrusted State.reset ∧ StandingsSound State.reset

/-! ### Arithmetic and encodings -/

/-- R128: the restored block has, at sample s of segment order[n], the received code of output position n and sample s
combined with M, and with 0x80 when bit n of F is 1; the order is one of all eight segments; and the restored block of
a scrambled one is the block that was collected, under one key, counter, segment length and masking choice. -/
def Obligations.RestoreUndoesScramble : Prop :=
  (∀ (segment : Nat) (masking : Bool) (k : KeyWords) (counter : Word) (codes : List Sample),
    codes.length = 8 * segment →
    (restore segment masking k counter codes).length = 8 * segment ∧
    let w := blockWord k counter
    let order := segmentOrder (orderWord w).toNat
    order.Perm (List.range 8) ∧
    ∀ n i, n < 8 → i < segment →
      (restore segment masking k counter codes)[order.getD n 0 * segment + i]? =
        some (codes.getD (n * segment + i) 0 ^^^ (if masking then w.extractLsb' 0 8 else 0) ^^^
          (if w.getLsbD (8 + n) then 0x80 else 0))) ∧
  (∀ (segment : Nat) (masking : Bool) (k : KeyWords) (counter : Word) (codes : List Sample),
    codes.length = 8 * segment →
    restore segment masking k counter (scramble segment masking k counter codes) = codes)

/-- A marker that a scrambler may form is sixteen nibbles, and a descrambler reads it back from them. -/
def Obligations.MarkersReadBack : Prop :=
  ∀ m : Marker, legalCountdown m.kind m.countdown = true →
    (markerNibbles m).length = 16 ∧ readMarker (markerNibbles m) = some m

/-- An assembler in HUNT that takes the nibbles of any message of legal length acts on that message. A message acts by its
type and length exactly as its command does: SIGN-ON with 9 bytes of body, RESPONSE with 4, SIGN-OFF and STATUS-QUERY with
none; a known type with a body of another length is garbled, as is a length byte of 0 or above 24 and a check byte with
which the bytes do not sum to 0; any other type is ignored. The model's choice: a completed
message is a command of its own (log entry 6). -/
def Obligations.HandsetMessageAssembles : Prop :=
  (∀ (i : SlotId) (m : HandsetMessage) (p : Option Nibble) (s : State), (s.slot i).assembler = .hunt p →
    m.body.length + 1 ≤ 24 →
    (handsetNibbles m).foldl (fun t x => takeNibble i x t) s = actOnMessage i m.type m.body s) ∧
  (∀ (i : SlotId) (s : State), Arrives i s →
    (∀ (n : ExtensionNumber) (serial : BitVec 48), exec (.signOn i n serial) s = .next (actOnMessage i 0x11
      ([n.extractLsb' 16 8, n.extractLsb' 8 8, n.extractLsb' 0 8] ++
        [serial.extractLsb' 40 8, serial.extractLsb' 32 8, serial.extractLsb' 24 8, serial.extractLsb' 16 8,
          serial.extractLsb' 8 8, serial.extractLsb' 0 8]) s)) ∧
    (∀ answer : BitVec 32, exec (.response i answer) s = .next (actOnMessage i 0x12
      [answer.extractLsb' 24 8, answer.extractLsb' 16 8, answer.extractLsb' 8 8, answer.extractLsb' 0 8] s)) ∧
    exec (.signOff i) s = .next (actOnMessage i 0x13 [] s) ∧
    exec (.statusQuery i) s = .next (actOnMessage i 0x14 [] s) ∧
    (∀ (type : Byte) (size : Nat) (body : List Byte), (type, size) ∈ [(0x11, 9), (0x12, 4), (0x13, 0), (0x14, 0)] →
      body.length ≠ size → exec (.garbledMessage i) s = .next (actOnMessage i type body s)) ∧
    (∀ (type : Byte) (body : List Byte), type ≠ 0x11 → type ≠ 0x12 → type ≠ 0x13 → type ≠ 0x14 →
      exec (.unknownHandsetMessage i type) s = .next (actOnMessage i type body s)) ∧
    (∀ h x : Nibble,
      ((s.slot i).assembler = .length (some h) ∧ ((nibblesByte h x).toNat = 0 ∨ 24 < (nibblesByte h x).toNat)) ∨
        (∃ content sum, (s.slot i).assembler = .check content sum (some h) ∧ sum + nibblesByte h x ≠ 0) →
      exec (.garbledMessage i) s = .next (takeNibble i x s)))

/-- A request assembler in HUNT that takes the bytes of a request of legal length performs that request. A request is
handed over by its code, exactly as its command acts; one of any other code is answered UNKNOWN-REQUEST, and a body of
another size than the request's own BAD-LENGTH. The model's choice: a completed request is a command of its own (log entry
6). -/
def Obligations.RequestMessageAssembles : Prop :=
  (∀ (code : Byte) (body : List Byte) (p : Option Byte) (s : State), s.port.assembler = .hunt p →
    body.length + 1 ≤ 1024 →
    ([0xD2, 0x4B] ++ bytes16 (body.length + 1) ++ code :: body ++
        bytes16 (sum16 (bytes16 (body.length + 1) ++ code :: body)).toNat).foldl (fun t b => takeByte b t) s =
      performRequest code body s) ∧
  (let table : List ((List Byte → Instr) × Byte × Nat) :=
      [(.getStatus, 0x01, 0), (.setTime, 0x02, 5), (.setTimers, 0x03, 8), (.reset, 0x04, 0),
        (.eraseSecrets, 0x05, 0), (.setSlot, 0x10, 3), (.readSlot, 0x11, 1), (.forceSignOff, 0x12, 1),
        (.loadEntry, 0x20, 20), (.deleteEntry, 0x21, 2), (.readDirectory, 0x22, 3), (.setStanding, 0x23, 3),
        (.loadClass, 0x24, 6), (.loadVisitorRule, 0x25, 7), (.setVisitorMasks, 0x26, 2), (.setEngineLevels, 0x30, 3),
        (.loadSite, 0x40, 11), (.clearSite, 0x41, 1), (.openPrivacy, 0x42, 14), (.closePrivacy, 0x43, 1),
        (.rekey, 0x44, 1), (.readContext, 0x45, 1), (.loadTone, 0x50, 12), (.setToneFunctions, 0x51, 6),
        (.playTone, 0x52, 2), (.stopTone, 0x53, 2), (.setEventMask, 0x60, 2), (.readEvents, 0x61, 1),
        (.readRecords, 0x62, 1)]
  ∀ (body : List Byte) (s : State), Running s →
    (∀ e ∈ table, exec (e.1 body) s = .next (performRequest e.2.1 body s) ∧
      (Accepts s → body.length ≠ e.2.2 → performRequest e.2.1 body s = answered e.2.1 .badLength [] s)) ∧
    (∀ code, (∀ e ∈ table, e.2.1 ≠ code) →
      exec (.unknownRequest code body) s = .next (performRequest code body s) ∧
      (Accepts s → performRequest code body s = answered code .unknownRequest [] s)))

/-- The rounds of the engine compute the transform: a VERIFY is complete after 8 rounds with F of its input, a DERIVE
after 16 with the call key of its two inputs, and neither is complete before. -/
def Obligations.EngineRunsTheTransform : Prop :=
  ∀ op : Operation, op.round = 0 → op.first = none → op.complete = false →
    (op.word2 = none →
      (∀ n, n < 8 → (Operation.runRound^[n] op).complete = false) ∧
      (Operation.runRound^[8] op).complete = true ∧
      (Operation.runRound^[8] op).output = transform op.key (op.a ++ op.b)) ∧
    (∀ w, op.word2 = some w →
      (∀ n, n < 16 → (Operation.runRound^[n] op).complete = false) ∧
      (Operation.runRound^[16] op).complete = true ∧
      (Operation.runRound^[16] op).keyWords =
        callWords (transform op.key (op.a ++ op.b)) (transform op.key w))

/-! ### The line side -/

/-- Outside LOCKED a pulse count moves the good count and the miss run, and nothing is delivered; in LOST a pulse
leads to UNSTABLE and stops the loss hold; in UNSTABLE the 64th makes the entry to LOCKED due, and the miss run at W
the entry to LOST. The model's choice: what falls due in a frame is marked by fields of the model (log entry 1). -/
def Obligations.PulsesCountOutsideLocked : Prop :=
  ∀ (first : SlotWords) (second : Option SlotWords) (s : State), Running s → s.highway.observed = false →
    (∀ i, (s.slot i).changeDue = false) →
    (s.highway.timing = .lost →
      (∃ t, exec (.linePulseFrame first second []) s = .next t ∧ DeliversNothing s t ∧
        t.highway = { s.highway with
          observed := true, latest := second.getD first, lineWords := idleWords, timing := .unstable,
          goodCount := 1, missRun := 0, lossHold := none } ∧
        t.events = (post .lineState none none none 1 s).events) ∧
      (∃ t, exec (.noPulseFrame []) s = .next t ∧ DeliversNothing s t ∧
        t.highway = { s.highway with
          observed := true, lineWords := idleWords, missRun := min (s.highway.missRun + 1) 16 } ∧
        t.events = s.events)) ∧
    (s.highway.timing = .unstable →
      (∃ t, exec (.linePulseFrame first second []) s = .next t ∧ DeliversNothing s t ∧
        t.highway = { s.highway with
          observed := true, latest := second.getD first, lineWords := idleWords, missRun := 0,
          goodCount := min (s.highway.goodCount + 1) 64
          lockDue := decide (min (s.highway.goodCount + 1) 64 = 64) } ∧
        t.events = s.events) ∧
      (∃ t, exec (.noPulseFrame []) s = .next t ∧ DeliversNothing s t ∧
        t.highway = { s.highway with
          observed := true, lineWords := idleWords, goodCount := 0, missRun := min (s.highway.missRun + 1) 16
          lossDue := decide (s.highway.lossWindow ≤ min (s.highway.missRun + 1) 16) } ∧
        t.events = s.events))

/-- In LOCKED the store takes in the frames that completed and delivers one: the oldest it holds; past the oldest one
at a drop slip; the last delivered again at a repeat slip. A slip is counted and posted, and reaches the descrambler
of every context before it takes its word. A miss run that reaches W delivers nothing. The delivered word's line state
code acts on the filter of every slot, its aux nibble on the assembler of an EXTENSION slot, and every idle duration
counts; while every assembler hunts, so that no handset message ends, nothing but the line side, the slots, the contexts
and the events changes. The spec lets a slip and a marker of the frame come in either order: a context that the command
names has its marker judged first, and the slip then reaches it; at every other the slip comes first (log entry 9). The
model's choice: what falls due in a frame is marked by fields of the model (log entry 1). -/
def Obligations.StoreDeliversAndSlips : Prop :=
  ∀ (first : SlotWords) (second : Option SlotWords) (s : State), Running s → s.highway.observed = false →
    s.highway.timing = .locked → s.highway.entered = false → s.highway.lossDue = false →
    s.highway.store.length = s.highway.depth → s.highway.depth ≤ 2 →
    let alone (t : State) : Prop :=
      t = { s with highway := t.highway, events := t.events, slots := t.slots, contexts := t.contexts } ∧
      ∀ i, (t.slot i).kind = (s.slot i).kind ∧ (t.slot i).admission = (s.slot i).admission ∧
        (t.slot i).txQueue = (s.slot i).txQueue ∧ (t.slot i).garbled = (s.slot i).garbled ∧
        (t.slot i).filterLength = (s.slot i).filterLength ∧
        ((s.slot i).changeDue = false →
          let w := t.highway.lineWords.wordOf i
          t.slot i = hears (!t.highway.lossDue) w (supervised (!t.highway.lossDue) w (s.slot i)))
    let missed := min (s.highway.missRun + 1) 16
    let frames := s.highway.store ++ first :: second.toList
    let kept : Highway := { s.highway with
      observed := true, latest := second.getD first, missRun := 0, depth := s.highway.depth + second.toList.length
      store := frames.drop 1, delivered := frames.getD 0 first, lineWords := frames.getD 0 first }
    let dropped : Highway := { s.highway with
      observed := true, latest := second.getD first, missRun := 0, depth := 2
      store := frames.drop 2, delivered := frames.getD 1 first, lineWords := frames.getD 1 first }
    let shorter : Highway := { s.highway with
      observed := true, missRun := missed, depth := s.highway.depth - 1, store := s.highway.store.drop 1
      delivered := s.highway.store.getD 0 s.highway.delivered
      lineWords := s.highway.store.getD 0 s.highway.delivered }
    let again : Highway := { s.highway with
      observed := true, missRun := missed, lineWords := s.highway.delivered }
    let lost : Highway := { s.highway with observed := true, missRun := missed, lineWords := idleWords, lossDue := true }
    let slipped (h : Highway) : Highway := { h with slipCount := min (s.highway.slipCount + 1) 65535 }
    ((∀ i, ∃ p, (s.slot i).assembler = .hunt p) →
     (∃ t, exec (.linePulseFrame first second []) s = .next t ∧ alone t ∧
      (s.highway.depth + (first :: second.toList).length < 4 → t.highway = kept ∧ t.events = s.events ∧
        ∀ c, t.context c = (s.context c).map (Context.takeWord t.highway.lineWords)) ∧
      (s.highway.depth + (first :: second.toList).length = 4 → t.highway = slipped dropped ∧
        t.events = (post .slip none none none 1 s).events ∧
        ∀ c, t.context c = (s.context c).map fun x => x.slipped.takeWord t.highway.lineWords)) ∧
    (∃ t, exec (.noPulseFrame []) s = .next t ∧ alone t ∧
      (missed < s.highway.lossWindow → s.highway.depth ≠ 0 → t.highway = shorter ∧ t.events = s.events ∧
        ∀ c, t.context c = (s.context c).map (Context.takeWord t.highway.lineWords)) ∧
      (missed < s.highway.lossWindow → s.highway.depth = 0 → t.highway = slipped again ∧
        t.events = (post .slip none none none 2 s).events ∧
        ∀ c, t.context c = (s.context c).map fun x => x.slipped.takeWord t.highway.lineWords) ∧
      (s.highway.lossWindow ≤ missed → t.highway = lost ∧ t.events = s.events ∧
        ∀ c, t.context c = (s.context c).map (Context.takeWord idleWords)))) ∧
    (∀ judgedFirst : List ContextId,
      (∃ t, exec (.linePulseFrame first second judgedFirst) s = .next t ∧
        (s.highway.depth + (first :: second.toList).length < 4 → LineTaken judgedFirst kept none s t) ∧
        (s.highway.depth + (first :: second.toList).length = 4 → LineTaken judgedFirst dropped (some 1) s t)) ∧
      (∃ t, exec (.noPulseFrame judgedFirst) s = .next t ∧
        (missed < s.highway.lossWindow → s.highway.depth ≠ 0 → LineTaken judgedFirst shorter none s t) ∧
        (missed < s.highway.lossWindow → s.highway.depth = 0 → LineTaken judgedFirst again (some 2) s t) ∧
        (s.highway.lossWindow ≤ missed → LineTaken judgedFirst lost none s t)))

/-- The entry to LOCKED centres the store on the last frame completed, counts and posts a realignment, then posts
LOCKED; every descrambler meets it as a slip, and nothing else changes. The entry to LOST starts the loss hold, posts
LOST, empties every assembler, abandons every sign-on in progress and sends every descrambler to HUNT: no VERIFY of an
abandoned slot stays on the list, every other request does in its order, and no record has a pending sign-on any more; a
VERIFY in flight for an abandoned slot is aborted, and the engine rests, while any other operation in flight goes on; every
other field of the engine and of a slot, and every admission, stays. The model's choice: what falls due in a frame is marked by fields of the
model (log entry 1). -/
def Obligations.EntriesToLockedAndLost : Prop :=
  ∀ s : State, Running s →
    (s.highway.lockDue = true →
      ∃ t, exec .entryToLocked s = .next t ∧
        t = { s with
          highway := { s.highway with
            timing := .locked, lockDue := false, entered := true, depth := 1, store := [s.highway.latest]
            slipCount := min (s.highway.slipCount + 1) 65535 }
          events := (post .lineState none none none 2 (post .slip none none none 3 s)).events
          contexts := t.contexts } ∧
        ∀ c, t.context c = (s.context c).map Context.slipped) ∧
    (s.highway.lossDue = true →
      ∃ t, exec .entryToLost s = .next t ∧
        t = { s with
          highway := { s.highway with
            timing := .lost, goodCount := 0, lossDue := false, lossHold := some { elapsed := 0, due := false } }
          events := (post .lineState none none none 0 s).events
          slots := t.slots, directory := t.directory, engine := t.engine, contexts := t.contexts } ∧
        (∀ i, t.slot i =
          if (s.slot i).signingOn then
            { s.slot i with assembler := .hunt none, admission := .locked, responseTimer := none, challenge := none }
          else { s.slot i with assembler := .hunt none }) ∧
        (∀ r, t.record r = s.record r ∨ t.record r = (s.record r).map fun x => { x with pendingSlot := none }) ∧
        (AdmissionSound s → ∀ r, t.record r = (s.record r).map fun x => { x with pendingSlot := none }) ∧
        (∀ c, t.context c = (s.context c).map Context.slipped) ∧
        t.engine = { s.engine with
          requests := t.engine.requests, operation := t.engine.operation, toRest := t.engine.toRest } ∧
        (∀ q, q ∈ t.engine.requests ↔
          q ∈ s.engine.requests ∧ ∀ i, (s.slot i).signingOn = true → q.job.isVerifyOf i = false) ∧
        t.engine.requests.Sublist s.engine.requests ∧
        let abandoned (q : Request) : Prop := ∃ i, (s.slot i).signingOn = true ∧ q.job.isVerifyOf i = true
        ((∃ q ∈ s.engine.requests, q.inFlight = true ∧ abandoned q) →
          t.engine.operation = none ∧ t.engine.toRest = true) ∧
        ((∀ q ∈ s.engine.requests, q.inFlight = true → ¬abandoned q) →
          t.engine.operation = s.engine.operation ∧ t.engine.toRest = s.engine.toRest))

/-- The loss hold expiry stops the timer, frees every context, its call record stored with LINE-LOSS, or with the cause of
its close when it was CLOSING, signs every admitted slot off, which releases its record or the visitor count, and posts
HOLD-EXPIRED last; it leaves the line LOST. A slot that is not admitted keeps its
admission state, and the clock, the port and the tables stay. The model's choice: what falls due in a frame is marked by
fields of the model (log entry 1). -/
def Obligations.LossHoldExpiryClearsCalls : Prop :=
  ∀ (s : State) (x : Timer), Running s → s.highway.timing = .lost → s.highway.lossHold = some x → x.due = true →
    s.highway.lossHoldLimit ≤ x.elapsed →
    ∃ t, exec .lossHoldExpiry s = .next t ∧
      t = { s with
        highway := { s.highway with lossHold := none }
        slots := t.slots, directory := t.directory, visitors := t.visitors, engine := t.engine
        contexts := t.contexts, events := t.events, records := t.records } ∧
      (∀ c, t.context c = none) ∧
      t.records = (freedInTurn (fun _ => true)
        (fun y => if y.phase = .closing then y.cause else some .lineLoss) contextIds s).records ∧
      (∀ i, (t.slot i).isAdmitted = false ∧ (t.slot i).kind = (s.slot i).kind ∧
        ((s.slot i).isAdmitted = false → (t.slot i).admission = (s.slot i).admission) ∧
        ((s.slot i).isAdmitted = true → (t.slot i).boundIndex = none ∧ (t.slot i).number = none ∧
          (t.slot i).admissionClass = none ∧ (t.slot i).visitor = false)) ∧
      (∀ i r y, (s.slot i).isAdmitted = true → (s.slot i).boundIndex = some r → s.record r = some y →
        t.record r = some { y with admittedSlot := none }) ∧
      (∀ r, (∀ i, (s.slot i).isAdmitted = true → (s.slot i).boundIndex ≠ some r) → t.record r = s.record r) ∧
      t.visitors.rules = s.visitors.rules ∧ t.visitors.maskA = s.visitors.maskA ∧ t.visitors.maskB = s.visitors.maskB ∧
      (AdmissionSound s → t.visitors.count = 0) ∧
      t.events.mask = s.events.mask ∧ (∃ posted, t.events.queue = s.events.queue ++ posted) ∧
      (s.events.mask.getLsbD 7 = true → t.events.overflow = false → t.events.queue.getLast? = some
        { kind := .lineState, stamp := s.clock.reading, slot := none, context := none, index := none, detail := 3 }) ∧
      ((∀ c, s.context c = none) → (∀ i, (s.slot i).isAdmitted = false) →
        t.events = (post .lineState none none none 3 s).events)

/-- The words with which a frame ends are formed from its gating: idle words in an UNUSED slot; a closed extension's
exchange side idle; its line side the tone or the idle code, and the transmit nibble; an admitted extension's speech
both ways, the tone in its place; a tie's and a trunk's words as they come, the filtered code toward the exchange; a
bound tie's codes from the descrambler and the scrambler, with the marker's nibbles, and codes of 0 once its context has
been freed, or freed and opened again; the descrambler gives 0 when it is not synchronised or sends no restored block. Slot 0 carries the port's word. FramePulseAdvancesCounters says what the gating of a frame is. The model's
choices: the words are formed at the end of a frame (log entry 3), and what a slot still gated as bound sends when the
context of the frame's start is gone (log entry 22). -/
def Obligations.SlotWordsAreGated : Prop :=
  (∀ s : State, s.clock.timebase = .running →
    ∃ t, exec .framePulseStop s = .next t ∧ t.highway = (sendWords t).highway) ∧
  (∀ s : State, (sendWords s).highway.exchangeOut[0] = s.port.word ∧ (sendWords s).highway.lineOut[0] = 0 ∧
    ∀ i : SlotId,
      let line := s.highway.lineWords.wordOf i
      let exchange := s.highway.received.wordOf i
      let toExchange := (sendWords s).highway.exchangeOut.wordOf i
      let toLine := (sendWords s).highway.lineOut.wordOf i
      ((s.slot i).gate = .unused → toExchange = 0 ∧ toLine = 0) ∧
      ((s.slot i).gate = .closed → toExchange = 0 ∧
        toLine = slotWord ((s.slot i).toneOut.getD 0) (lineStateOf exchange) (s.slot i).auxOut) ∧
      ((s.slot i).gate = .passing → toExchange = slotWord (sampleOf line) (s.slot i).filtered 0 ∧
        toLine = slotWord ((s.slot i).toneOut.getD (sampleOf exchange)) (lineStateOf exchange) (s.slot i).auxOut) ∧
      ((s.slot i).gate = .through → toLine = exchange ∧
        toExchange = slotWord (sampleOf line) (s.slot i).filtered (auxOf line)) ∧
      (∀ c, (s.slot i).gate = .bound c → s.context c = none →
        toExchange = slotWord 0 (s.slot i).filtered 0 ∧ toLine = slotWord 0 (lineStateOf exchange) 0) ∧
      (∀ c x, (s.slot i).gate = .bound c → s.context c = some x → x.tie ≠ i ∨ x.elapsed = 0 →
        toExchange = slotWord 0 (s.slot i).filtered 0 ∧ toLine = slotWord 0 (lineStateOf exchange) 0) ∧
      (∀ c x, (s.slot i).gate = .bound c → s.context c = some x → x.tie = i → x.elapsed ≠ 0 →
        (x.descrambler.synchronised = false ∨ x.descrambler.restored = none ∨ x.descrambler.offset = none →
          toExchange = slotWord 0 (s.slot i).filtered 0) ∧
        (∀ codes o, x.descrambler.synchronised = true → x.descrambler.restored = some codes →
          x.descrambler.offset = some o → toExchange = slotWord (codes.getD o 0) (s.slot i).filtered 0) ∧
        (x.scrambler.emission = .idle → toLine = slotWord 0 (lineStateOf exchange) 0) ∧
        (∀ m codes, x.scrambler.emission = .block m codes →
          toLine = slotWord (codes.getD x.offset 0) (lineStateOf exchange) ((markerNibbles m).getD x.offset 0))))

/-- A filter of N ms times a new code through 8N consecutive frames and only then finds the change due; a frame of the
filtered code abandons the change, and a third code starts the count afresh; the change, taken, makes the code the filtered
one and brings the idle duration up to date. The model's choice: what falls due in a
frame is marked by fields of the model (log entry 1). -/
def Obligations.FilterTimesANewCode : Prop :=
  (∀ (r : Slot) (x : Nibble) (n : Nat), 0 < r.filterLength → x ≠ r.filtered → x ≠ r.candidate →
    r.changeDue = false → 1 ≤ n → n ≤ 8 * r.filterLength →
    (Slot.filter x)^[n] r =
      { r with candidate := x, persistence := n, changeDue := decide (8 * r.filterLength ≤ n) }) ∧
  (∀ (r : Slot) (x : Nibble), r.filterLength = 0 →
    r.filter x = { r with filtered := x, candidate := x, persistence := 0 }) ∧
  (∀ r : Slot, 0 < r.filterLength → r.filter r.filtered = { r with candidate := r.filtered, persistence := 0 }) ∧
  (∀ (r : Slot) (x : Nibble), 0 < r.filterLength → x ≠ r.filtered → x ≠ r.candidate →
    r.filter x = { r with candidate := x, persistence := 1 }) ∧
  (∀ (i : SlotId) (s : State), Running s → (s.slot i).changeDue = true →
    exec (.filteredCodeChange i) s = .next (s.withSlot i { s.slot i with
      filtered := (s.slot i).candidate, persistence := 0, changeDue := false
      idle := if (s.slot i).candidate = 0 then min ((s.slot i).idle + 1) 65535 else 0 }))

/-! ### Handset messages and admission -/

/-- A STATUS-QUERY is answered from the slot record, or lost with TX-OVERFLOW on a full queue; a garbled message is
counted; a message of unknown type is ignored. Nothing else changes. The model's choice: a completed message or
request is a command of its own (log entry 6). -/
def Obligations.HandsetUnitAnswersAndCounts : Prop :=
  ∀ (i : SlotId) (s : State), Arrives i s →
    ((s.slot i).txQueue.length < 4 →
      exec (.statusQuery i) s = .next (s.withSlot i { s.slot i with
        assembler := .hunt none
        txQueue := (s.slot i).txQueue ++ [{ type := 0x24, body := byte (s.slot i).admission.code ::
          (match (s.slot i).number with
            | none => [0xFF, 0xFF, 0xFF]
            | some n => [n.extractLsb' 16 8, n.extractLsb' 8 8, n.extractLsb' 0 8]) }] })) ∧
    (4 ≤ (s.slot i).txQueue.length →
      exec (.statusQuery i) s = .next (post .txOverflow (some i) none none 0x24
        (s.withSlot i { s.slot i with assembler := .hunt none }))) ∧
    exec (.garbledMessage i) s = .next (s.withSlot i { s.slot i with
      assembler := .hunt none, garbled := min ((s.slot i).garbled + 1) 255 }) ∧
    (∀ type, exec (.unknownHandsetMessage i type) s =
      .next (s.withSlot i { s.slot i with assembler := .hunt none }))

/-- A SIGN-ON at a LOCKED slot whose number one record holds, not BARRED, with that record's serial, in band and with
no sign-on pending, is challenged: nothing changes but the nonce source, the record's pending slot and the slot. The
model's choice: a completed message or request is a command of its own (log entry 6). -/
def Obligations.SignOnIsChallenged : Prop :=
  ∀ (i : SlotId) (r : RecordId) (x : Record) (s : State), Arrives i s → (s.slot i).admission = .locked →
    wellFormedNumber x.number = true → s.record r = some x →
    (∀ q y, s.record q = some y → y.number = x.number → q = r) →
    x.standing ≠ .barred → (s.classRecord x.cls).inBand = true → x.pendingSlot = none →
    (s.slot i).txQueue.length < 4 →
    let nonce : BitVec 24 := s.engine.nonce + 0x5B2C4F + BitVec.ofNat 24 s.clock.reading.frame
    let challenge : BitVec 32 := nonce ++ BitVec.ofNat 8 s.clock.reading.frame
    exec (.signOn i x.number x.serial) s = .next
      (((s.withEngine { s.engine with nonce := nonce }).withRecord r (some { x with pendingSlot := some i })).withSlot
        i { s.slot i with
          assembler := .hunt none, admission := .challenged, challenge := some challenge
          responseTimer := some { elapsed := 0, due := false }
          txQueue := (s.slot i).txQueue ++ [{ type := 0x21, body :=
            [challenge.extractLsb' 24 8, challenge.extractLsb' 16 8, challenge.extractLsb' 8 8,
              challenge.extractLsb' 0 8] }] })

/-- A SIGN-ON at a LOCKED slot with a number no record holds, which a rule in band matches and no other visitor
holds, is admitted as a visitor while fewer than 32 are. The model's choice: a completed message or request is a
command of its own (log entry 6). -/
def Obligations.VisitorIsAdmitted : Prop :=
  ∀ (i : SlotId) (n : ExtensionNumber) (serial : BitVec 48) (v : VisitorRule) (s : State), Arrives i s →
    (s.slot i).admission = .locked → wellFormedNumber n = true →
    (∀ q y, s.record q = some y → y.number ≠ n) → matchingRule n s = some v →
    (s.classRecord v.cls).inBand = true →
    (∀ j, j ≠ i → (s.slot j).isAdmitted = true → (s.slot j).visitor = true → (s.slot j).number ≠ some n) →
    s.visitors.count < 32 → (s.slot i).txQueue.length < 4 →
    ∃ t, exec (.signOn i n serial) s = .next t ∧
      (t.slot i).admission = .admitted ∧ (t.slot i).visitor = true ∧ (t.slot i).number = some n ∧
      (t.slot i).admissionClass = some v.cls ∧ (t.slot i).boundIndex = none ∧
      (t.slot i).txQueue = (s.slot i).txQueue ++ [{ type := 0x22, body := [byte v.cls, 0] }] ∧
      (∀ j, j ≠ i → t.slot j = s.slot j) ∧
      t = { s with
        slots := t.slots
        visitors := { s.visitors with count := s.visitors.count + 1 }
        events := (post .signedOn (some i) none none (byte (v.cls + 0x80)) s).events }

/-- A SIGN-ON at a LOCKED slot refused without a failure (malformed number, BARRED record, class out of band, record
already pending; no rule matches, or its class is out of band, the number is admitted elsewhere as a visitor, or 32
visitors are): the slot holds, or is LOCKED under a refusal hold of 0; REFUSED is queued and
SIGN-ON-REFUSED posted with the reason; nothing but this slot and the events changes. The model's choice: a completed
message or request is a command of its own (log entry 6). -/
def Obligations.SignOnIsRefused : Prop :=
  ∀ (i : SlotId) (n : ExtensionNumber) (serial : BitVec 48) (reason : Reason) (index : Option RecordId) (s : State),
    Arrives i s → (s.slot i).admission = .locked → (s.slot i).txQueue.length < 4 →
    ((wellFormedNumber n = false ∧ reason = .malformed ∧ index = none) ∨
      (wellFormedNumber n = true ∧ (∀ q y, s.record q = some y → y.number ≠ n) ∧ matchingRule n s = none ∧
        reason = .unknown ∧ index = none) ∨
      (wellFormedNumber n = true ∧ (∀ q y, s.record q = some y → y.number ≠ n) ∧ index = none ∧
        ∃ v, matchingRule n s = some v ∧
          (((s.classRecord v.cls).inBand = false ∧ reason = .outOfHours) ∨
            ((s.classRecord v.cls).inBand = true ∧ reason = .busy ∧
              ∃ j, j ≠ i ∧ (s.slot j).isAdmitted = true ∧ (s.slot j).visitor = true ∧ (s.slot j).number = some n) ∨
            ((s.classRecord v.cls).inBand = true ∧ reason = .visitorsFull ∧ 32 ≤ s.visitors.count ∧
              ∀ j, j ≠ i → (s.slot j).isAdmitted = true → (s.slot j).visitor = true →
                (s.slot j).number ≠ some n))) ∨
      (∃ r x, wellFormedNumber n = true ∧ s.record r = some x ∧ x.number = n ∧
        (∀ q y, s.record q = some y → y.number = n → q = r) ∧ index = some r ∧
        ((x.standing = .barred ∧ reason = .barred) ∨
          (x.standing ≠ .barred ∧ serial = x.serial ∧ (s.classRecord x.cls).inBand = false ∧
            reason = .outOfHours) ∨
          (x.standing ≠ .barred ∧ serial = x.serial ∧ (s.classRecord x.cls).inBand = true ∧
            x.pendingSlot.isSome ∧ reason = .busy)))) →
    ∃ t, exec (.signOn i n serial) s = .next t ∧
      (s.timers.refusalHold = 0 → (t.slot i).admission = .locked ∧ (t.slot i).refusalHold = none) ∧
      (s.timers.refusalHold ≠ 0 →
        (t.slot i).admission = .hold ∧ (t.slot i).refusalHold = some { elapsed := 0, due := false }) ∧
      (t.slot i).txQueue = (s.slot i).txQueue ++ [{ type := 0x23, body := [reason.code] }] ∧
      (∀ j, j ≠ i → t.slot j = s.slot j) ∧
      t = { s with
        slots := t.slots, events := (post .signOnRefused (some i) none index reason.code s).events }

/-- A RESPONSE at a CHALLENGED slot stops the timer, enters VERIFYING and posts the slot's VERIFY under its record. A
SIGN-OFF during a sign-on abandons it: the VERIFY is withdrawn, the record no longer pending, the slot LOCKED. In
both nothing else changes: no message, event, failure or hold follows. The model's choice: a completed message or
request is a command of its own (log entry 6). -/
def Obligations.ResponseVerifiesAndSignOffAbandons : Prop :=
  ∀ (i : SlotId) (r : RecordId) (x : Record) (answer : BitVec 32) (s : State), Arrives i s →
    s.record r = some x → x.pendingSlot = some i →
    (∀ q y, s.record q = some y → y.pendingSlot = some i → q = r) →
    ((s.slot i).admission = .challenged →
      exec (.response i answer) s = .next
        ((s.withEngine (s.engine.post (.verify i r answer))).withSlot i { s.slot i with
          assembler := .hunt none, admission := .verifying, responseTimer := none })) ∧
    ((s.slot i).signingOn = true →
      exec (.signOff i) s = .next
        (((s.withEngine (s.engine.withdraw (Job.isVerifyOf i))).withRecord r
          (some { x with pendingSlot := none })).withSlot i { s.slot i with
            assembler := .hunt none, admission := .locked, responseTimer := none, challenge := none }))

/-- A SIGN-OFF at an admitted slot, and the idle sign-off of an EXPIRING one, end the admission: its partners are
marked gone and no longer OPEN: one in CLOSING keeps its cause, one whose scrambler runs or announces is CLOSING with cause
SIGN-OFF, and any other is freed, in the list's order, its call record stored with that cause; its tones and its messages not begun dropped, its record or the visitor count released,
the slot LOCKED with no admission field left; other admissions stay. A SIGN-ON at an admitted slot repeats ADMITTED for
the same number; with another it signs the slot off and then acts at the LOCKED slot. The model's choices: what falls due
in a frame is marked by fields of the model; a completed message or request is a command of its own (log entries 1 and
6); a message start that was due does not take place (log entry 24). -/
def Obligations.SignOffEndsTheAdmission : Prop :=
  ∀ (i : SlotId) (s : State),
    (Arrives i s ∧ (s.slot i).isAdmitted = true →
      ∃ t, exec (.signOff i) s = .next t ∧ t = signOffSlot .handset i (huntAssembler i s)) ∧
    (Running s → (s.slot i).admission = .expiring → s.highway.observed = true → (s.slot i).changeDue = false →
      8000 ≤ (s.slot i).idle → exec (.expiringIdleSignOff i) s = .next (signOffSlot .outOfHours i s)) ∧
    (∀ (n : ExtensionNumber) (serial : BitVec 48) (k : ClassId), Arrives i s → (s.slot i).isAdmitted = true →
      ((s.slot i).number = some n → (s.slot i).admissionClass = some k → (s.slot i).txQueue.length < 4 →
        exec (.signOn i n serial) s = .next (s.withSlot i { s.slot i with
          assembler := .hunt none
          txQueue := (s.slot i).txQueue ++ [{ type := 0x22, body :=
            [byte k, if (s.slot i).visitor = false ∧ (s.classRecord k).privacy = true then 1 else 0] }] })) ∧
      ((s.slot i).number ≠ some n →
        exec (.signOn i n serial) s = exec (.signOn i n serial) (signOffSlot .replaced i (huntAssembler i s)) ∧
          ((signOffSlot .replaced i (huntAssembler i s)).slot i).admission = .locked)) ∧
    (∀ cause, (s.slot i).isAdmitted = true →
      ((signOffSlot cause i s).slot i).admission = .locked ∧ ((signOffSlot cause i s).slot i).boundIndex = none ∧
      ((signOffSlot cause i s).slot i).number = none ∧ ((signOffSlot cause i s).slot i).admissionClass = none ∧
      ((signOffSlot cause i s).slot i).visitor = false ∧ ((signOffSlot cause i s).slot i).tone = none ∧
      ((signOffSlot cause i s).slot i).pendingTone = none ∧
      ((signOffSlot cause i s).slot i).transmitter = (s.slot i).transmitter ∧
      ((signOffSlot cause i s).slot i).startDue = false ∧
      (∀ k, (s.slot i).transmitter = .sending k →
        ((signOffSlot cause i s).slot i).txQueue = (s.slot i).txQueue.take 1) ∧
      ((∀ k, (s.slot i).transmitter ≠ .sending k) → ((signOffSlot cause i s).slot i).txQueue = []) ∧
      (∀ c ∈ (s.slot i).partners, ∀ y, (signOffSlot cause i s).context c = some y →
        y.phase = .closing ∧ y.gone = true) ∧
      (∀ c ∈ (s.slot i).partners, ∀ x, s.context c = some x →
        (x.phase = .closing → (signOffSlot cause i s).context c = some { x with gone := true }) ∧
        (x.phase ≠ .closing → x.scrambler.state = .running ∨ x.scrambler.state = .announcing →
          ∃ y, (signOffSlot cause i s).context c = some y ∧ y.phase = .closing ∧ y.gone = true ∧
            y.cause = some .signOff ∧ y.scrambler.state = .clearing) ∧
        (x.phase ≠ .closing → x.scrambler.state ≠ .running → x.scrambler.state ≠ .announcing →
          (signOffSlot cause i s).context c = none)) ∧
      ((s.slot i).partners.Nodup →
        let freed := freedInTurn (fun x => decide (x.phase ≠ .closing ∧ x.scrambler.state ≠ .running ∧
          x.scrambler.state ≠ .announcing)) (fun _ => some .signOff) (s.slot i).partners s
        (signOffSlot cause i s).records = freed.records ∧ (signOffSlot cause i s).events =
          (post .signedOff (some i) none (s.slot i).boundIndex cause.code freed).events) ∧
      (∀ j, j ≠ i → ((signOffSlot cause i s).slot j).admission = (s.slot j).admission ∧
        ((signOffSlot cause i s).slot j).boundIndex = (s.slot j).boundIndex) ∧
      (∀ r x, (s.slot i).boundIndex = some r → s.record r = some x →
        (signOffSlot cause i s).record r = some { x with admittedSlot := none }) ∧
      ((s.slot i).boundIndex = none → (s.slot i).visitor = true →
        (signOffSlot cause i s).visitors.count = s.visitors.count - 1) ∧
      ((s.slot i).partners = [] → (signOffSlot cause i s).events =
        (post .signedOff (some i) none (s.slot i).boundIndex cause.code s).events))

/-- A completed VERIFY whose output equals the answer, its class in band, admits the slot under its record: the old
slot of the record is signed off, the stamp is the clock's reading, the counter falls or the standing is restored; the
ADMITTED message is queued, or lost with TX-OVERFLOW on a full queue, SIGNED-ON is posted last, and the ADMIT tone begins at
an idle player. No other record, no visitor and no other slot's admission changes. The model's choice: what falls due in a frame is
marked by fields of the model (log entry 1). -/
def Obligations.VerifySuccessAdmits : Prop :=
  ∀ (i : SlotId) (r : RecordId) (x : Record) (op : Operation) (answer : BitVec 32) (s : State), Running s →
    s.engine.operation = some op → op.complete = true → op.job = .verify i r answer → op.output = answer →
    (s.slot i).kind = .extension → (s.slot i).admission = .verifying →
    s.record r = some x → x.pendingSlot = some i →
    (s.classRecord x.cls).inBand = true → x.standing ≠ .barred → x.admittedSlot ≠ some i →
    (∀ a, x.admittedSlot = some a → (s.slot a).boundIndex = some r) →
    ∃ t, exec .verifyDelivery s = .next t ∧
      t = { s with
        slots := t.slots, directory := t.directory, engine := t.engine, contexts := t.contexts
        events := t.events, records := t.records } ∧
      (t.slot i).admission = .admitted ∧ (t.slot i).boundIndex = some r ∧ (t.slot i).number = some x.number ∧
      (t.slot i).admissionClass = some x.cls ∧ (t.slot i).visitor = false ∧ (t.slot i).challenge = none ∧
      t.record r = some { x with
        pendingSlot := none, admittedSlot := some i, lastSignOn := some s.clock.reading, standing := .good
        faults := if x.standing = .good then x.faults - 1 else 127 } ∧
      let admitted : List HandsetMessage :=
        [{ type := 0x22, body := [byte x.cls, if (s.classRecord x.cls).privacy then 1 else 0] }]
      (t.slot i).txQueue = (if (s.slot i).txQueue.length < 4 then (s.slot i).txQueue ++ admitted
        else (s.slot i).txQueue) ∧
      (x.admittedSlot = none →
        let judged := if x.standing = .good then s else post .standingChanged none none (some r) 0 s
        let heard := if (s.slot i).txQueue.length < 4 then judged else post .txOverflow (some i) none none 0x22 judged
        t.events = (post .signedOn (some i) none (some r) (byte x.cls) heard).events) ∧
      (s.events.mask.getLsbD 0 = true → t.events.overflow = false → t.events.queue.getLast? = some
        { kind := .signedOn, stamp := s.clock.reading, slot := some i, context := none, index := some r
          detail := byte x.cls }) ∧
      (∀ d y, s.tones.functions.admission = some d → s.tones.descriptors[d] = some y → (s.slot i).tone = none →
        (t.slot i).tone = some { descriptor := y, index := d, begun := 1, phase := .burst 0 }) ∧
      (∀ q, q ≠ r → t.record q = s.record q) ∧
      (∀ a, x.admittedSlot = some a → (s.slot a).isAdmitted = true → (t.slot a).admission = .locked) ∧
      (∀ j, j ≠ i → x.admittedSlot ≠ some j → (t.slot j).admission = (s.slot j).admission) ∧
      (x.admittedSlot = none → t.contexts = s.contexts ∧ t.records = s.records ∧
        (∀ j, j ≠ i → t.slot j = s.slot j)) ∧
      t.engine.operation = none ∧ t.engine.toRest = true ∧ t.engine.nonce = s.engine.nonce

/-- A response timer that expires, a VERIFY whose output differs from the answer, and a SIGN-ON with another serial than
the record's are failures: 8 is added to the counter, which makes the record SUSPECT from 128 up, and past 255 BARRED,
its admitted slot signed off and a sign-on pending elsewhere refused with BARRED. The failing slot then hears REFUSED,
holds (or is LOCKED under a refusal hold of 0), and SIGN-ON-REFUSED is posted, each with NO-RESPONSE, BAD-RESPONSE or
WRONG-HANDSET. The model's choices: what falls due in a frame is marked by fields of the model; a completed message or
request is a command of its own (log entries 1 and 6). -/
def Obligations.FailedSignOnsCount : Prop :=
  ∀ (i : SlotId) (r : RecordId) (x : Record) (s : State), Running s → s.record r = some x → x.standing ≠ .barred →
    let alone (p : SlotId) : Prop := ∀ q y, s.record q = some y → y.pendingSlot = some p → q = r
    let stopped (e : Engine) (y : Record) : State :=
      ((s.withEngine (e.withdraw (Job.isVerifyOf i))).withRecord r (some y)).withSlot i
        { s.slot i with responseTimer := none, challenge := none }
    (∀ timer : Timer, x.pendingSlot = some i → alone i → (s.slot i).admission = .challenged →
      (s.slot i).responseTimer = some timer → timer.due = true → s.timers.responseTimeout ≤ timer.elapsed →
      ∃ t, exec (.responseTimeout i) s = .next t ∧
        Refused i .noResponse (some r) (failureCounted r { x with pendingSlot := none } (stopped s.engine)) t) ∧
    (∀ (op : Operation) (answer : BitVec 32), x.pendingSlot = some i → alone i → s.engine.operation = some op →
      op.complete = true → op.job = .verify i r answer → op.output ≠ answer → (s.slot i).admission = .verifying →
      let rested : Engine := { s.engine with
        requests := s.engine.requests.filter fun q => q.job != op.job, operation := none, toRest := true }
      ∃ t, exec .verifyDelivery s = .next t ∧
        Refused i .badResponse (some r) (failureCounted r { x with pendingSlot := none } (stopped rested)) t) ∧
    (∀ serial : BitVec 48, Arrives i s → (s.slot i).admission = .locked → wellFormedNumber x.number = true →
      (∀ q y, s.record q = some y → y.number = x.number → q = r) → serial ≠ x.serial →
      let base (y : Record) : State := (s.withRecord r (some y)).withSlot i { s.slot i with assembler := .hunt none }
      (x.faults + 8 ≤ 255 ∨ x.pendingSlot = none →
        ∃ t, exec (.signOn i x.number serial) s = .next t ∧
          Refused i .wrongHandset (some r) (failureCounted r x base) t) ∧
      (∀ p, 255 < x.faults + 8 → x.pendingSlot = some p → (s.slot p).signingOn = true → alone p →
        let barred : Record := { x with faults := 255, standing := .barred }
        let posted := post .standingChanged none none (some r) 2 (base barred)
        ∃ t v, exec (.signOn i x.number serial) s = .next t ∧
          Refused p .barred (some r) (((posted.withEngine (posted.engine.withdraw (Job.isVerifyOf p))).withRecord r
            (some { barred with pendingSlot := none })).withSlot p
              { posted.slot p with responseTimer := none, challenge := none }) v ∧
          Refused i .wrongHandset (some r)
            (match x.admittedSlot with
              | none => v
              | some a => signOffSlot .barred a v) t))

/-- A refusal hold that has run its time leaves the slot LOCKED; an IDLE transmitter with a message waiting at the
frame's start gives its first nibble; a message whose last nibble has been given leaves the queue. The model's
choice: what falls due in a frame is marked by fields of the model (log entry 1). -/
def Obligations.HoldsEndAndMessagesMove : Prop :=
  ∀ (i : SlotId) (s : State), Running s →
    (∀ timer : Timer, (s.slot i).admission = .hold → (s.slot i).refusalHold = some timer → timer.due = true →
      s.timers.refusalHold ≤ timer.elapsed →
      exec (.refusalHoldEnd i) s =
        .next (s.withSlot i { s.slot i with admission := .locked, refusalHold := none })) ∧
    (∀ (m : HandsetMessage) (rest : List HandsetMessage), (s.slot i).startDue = true →
      (s.slot i).transmitter = .idle → (s.slot i).txQueue = m :: rest →
      exec (.handsetMessageStart i) s = .next (s.withSlot i { s.slot i with
        transmitter := .sending 1, auxOut := 0xA, startDue := false })) ∧
    (∀ (m : HandsetMessage) (rest : List HandsetMessage) (k : Nat), (s.slot i).transmitter = .sending k →
      (s.slot i).txQueue = m :: rest → (handsetNibbles m).length ≤ k →
      exec (.handsetMessageSent i) s =
        .next (s.withSlot i { s.slot i with transmitter := .gap, txQueue := rest }))

/-- A minute boundary, a SET-TIME with its new reading and a LOAD-CLASS with its new band leave every flag they
recompute as the clock gives it. A class taken out of band leaves its ADMITTED slots EXPIRING with a notice, or LOCKED
after 8,000 idle frames; one brought back leaves its EXPIRING slots ADMITTED with an ADMITTED message. Each class whose
flag changes posts one BAND-CHANGE, in ascending order. No filter, idle duration, timer or garbled count of a slot is
touched, and no count of a context. An illegal class, flag, hour, minute or
second is refused and changes nothing. The model's choice: what falls due in a frame is marked by fields of the model
(log entry 1). -/
def Obligations.BandsAreRecomputed : Prop :=
  let swept (s t : State) (k : ClassId) : Prop :=
    ((s.classRecord k).inBand = true → (t.classRecord k).inBand = false →
      ∀ i, (t.slot i).kind = .extension → (t.slot i).admissionClass = some k → (t.slot i).admission ≠ .admitted) ∧
    ∀ i, (s.slot i).kind = .extension → (s.slot i).admissionClass = some k →
      ((s.classRecord k).inBand = true → (t.classRecord k).inBand = false → (s.slot i).admission = .admitted →
        (8000 ≤ (s.slot i).idle → (t.slot i).admission = .locked) ∧
        ((s.slot i).idle < 8000 → (t.slot i).admission = .expiring ∧
          ((s.slot i).txQueue.length < 4 →
            (t.slot i).txQueue = (s.slot i).txQueue ++ [{ type := 0x25, body := [4] }]))) ∧
      ((s.classRecord k).inBand = false → (t.classRecord k).inBand = true → (s.slot i).admission = .expiring →
        (t.slot i).admission = .admitted ∧
          ((s.slot i).txQueue.length < 4 →
            (t.slot i).txQueue = (s.slot i).txQueue ++ [{ type := 0x22, body :=
              [byte k, if (s.slot i).visitor = false ∧ (t.classRecord k).privacy = true then 1 else 0] }])) ∧
      ((s.classRecord k).inBand = (t.classRecord k).inBand → (t.slot i).admission = (s.slot i).admission)
  let alone (s t : State) : Prop :=
    t = { s with
      clock := t.clock, classes := t.classes, slots := t.slots, directory := t.directory, visitors := t.visitors
      engine := t.engine, contexts := t.contexts, events := t.events, records := t.records } ∧
    t.engine.nonce = s.engine.nonce ∧ t.events.mask = s.events.mask ∧
    (∃ posted, t.events.queue = s.events.queue ++ posted ∧
      (s.events.mask.getLsbD 9 = true → t.events.overflow = false →
        posted.filter (fun e => e.kind == .bandChange) = (List.finRange 8).filterMap fun k =>
          if (s.classRecord k).inBand = (t.classRecord k).inBand then none
          else some
            { kind := .bandChange, stamp := t.clock.reading, slot := none, context := none, index := none
              detail := byte (k.val + if (t.classRecord k).inBand then 0x80 else 0) })) ∧
    (∀ i, (t.slot i).idle = (s.slot i).idle ∧ (t.slot i).filtered = (s.slot i).filtered ∧
      (t.slot i).candidate = (s.slot i).candidate ∧ (t.slot i).persistence = (s.slot i).persistence ∧
      (t.slot i).responseTimer = (s.slot i).responseTimer ∧ (t.slot i).refusalHold = (s.slot i).refusalHold ∧
      (t.slot i).garbled = (s.slot i).garbled ∧ (t.slot i).assembler = (s.slot i).assembler) ∧
    (∀ c y, t.context c = some y → ∃ x, s.context c = some x ∧ y.elapsed = x.elapsed ∧
      y.rekeyElapsed = x.rekeyElapsed ∧ y.offset = x.offset ∧
      (y.phase = x.phase → y.descrambler = x.descrambler ∧ y.scrambler = x.scrambler))
  (∀ s : State, Running s → s.clock.minuteDue = true →
    ∃ t, exec .minuteBoundary s = .next t ∧ alone s t ∧ t.clock = { s.clock with minuteDue := false } ∧
      ∀ k, swept s t k ∧ t.classRecord k = { s.classRecord k with
        inBand := inBandAt (s.classRecord k).bandStart (s.classRecord k).bandEnd (minuteOfDay s.clock.reading) }) ∧
  (∀ (body : List Byte) (s : State), Accepts s → body.length = 5 →
    (byteAt body 2 ≤ 23 → byteAt body 3 ≤ 59 → byteAt body 4 ≤ 59 →
      ∃ t, exec (.setTime body) s = .next (answered 0x02 .ok [] t) ∧ alone s t ∧
        t.clock = { s.clock with reading :=
          { day := field16 body 0, hour := byteAt body 2, minute := byteAt body 3, second := byteAt body 4,
            frame := 0 } } ∧
        ∀ k, swept s t k ∧ t.classRecord k = { s.classRecord k with
          inBand := inBandAt (s.classRecord k).bandStart (s.classRecord k).bandEnd
            (byteAt body 2 * 60 + byteAt body 3) }) ∧
    (23 < byteAt body 2 ∨ 59 < byteAt body 3 ∨ 59 < byteAt body 4 →
      exec (.setTime body) s = .next (answered 0x02 .badArgument [] s))) ∧
  (∀ (body : List Byte) (s : State), Accepts s → body.length = 6 →
    (∀ k : ClassId, byteAt body 0 = k.val → byteAt body 1 ≤ 1 →
      ∃ t, exec (.loadClass body) s = .next (answered 0x24 .ok [] t) ∧ alone s t ∧ t.clock = s.clock ∧ swept s t k ∧
        t.classRecord k =
          { privacy := byteAt body 1 == 1, bandStart := min (field16 body 2) 1439
            bandEnd := min (field16 body 4) 1439
            inBand := inBandAt (min (field16 body 2) 1439) (min (field16 body 4) 1439)
              (minuteOfDay s.clock.reading) } ∧
        (∀ j, j ≠ k → t.classRecord j = s.classRecord j)) ∧
    (7 < byteAt body 0 ∨ 1 < byteAt body 1 →
      exec (.loadClass body) s = .next (answered 0x24 .badArgument [] s)))

/-! ### The engine -/

/-- An IDLE engine with an eligible waiting request loads the earliest of the lowest level, marks it in flight and
captures its key: the record's secret with the challenge, or the site's key with the two derive inputs. -/
def Obligations.EngineSelectsTheLowestLevel : Prop :=
  ∀ s : State, Running s → s.engine.phase = .idle → s.engine.candidates ≠ [] →
    ∃ q before after, s.engine.candidates = before ++ q :: after ∧
      (∀ p ∈ before, s.engine.level q.job < s.engine.level p.job) ∧
      (∀ p ∈ after, s.engine.level q.job ≤ s.engine.level p.job) ∧
      exec .engineSelect s = .next { s with engine := { s.engine with
        phase := .load
        operation := some (loadJob q.job s)
        requests := s.engine.requests.map fun p => if p.job = q.job then { p with inFlight := true } else p } } ∧
      (∀ i r answer x v, q.job = .verify i r answer → s.record r = some x → (s.slot i).challenge = some v →
        (loadJob q.job s).key = x.secret ∧ (loadJob q.job s).word2 = none ∧
          (loadJob q.job s).a ++ (loadJob q.job s).b = v) ∧
      (∀ c site nonce epoch y, (q.job = .txKey c site nonce epoch ∨ q.job = .rxKey c site nonce epoch) →
        s.sites[site] = some y → (loadJob q.job s).key = y.key ∧
          (loadJob q.job s).a ++ (loadJob q.job s).b = nonce ++ epoch ++ (1 : Nibble) ∧
          (loadJob q.job s).word2 = some (nonce ++ epoch ++ (2 : Nibble)))

/-- A completed derive leaves the list and the engine rests: a scrambler's goes to its next key, to act from the next
boundary; a sought key becomes the held key, and leads a sighted KEYWAIT to PRESYNC; an announced key waits. The
model's choice: what falls due in a frame is marked by fields of the model (log entry 1). -/
def Obligations.KeysAreDelivered : Prop :=
  ∀ (c : ContextId) (site : SiteId) (nonce : BitVec 24) (epoch : Nibble) (op : Operation) (x : Context) (s : State),
    Running s → s.engine.operation = some op → op.complete = true → s.context c = some x →
    let rested : Engine := { s.engine with
      requests := s.engine.requests.filter fun q => q.job != op.job, operation := none, toRest := true }
    (∀ n : NextKey, op.job = .txKey c site nonce epoch → x.scrambler.next = some n →
      x.scrambler.state = .keying ∨ x.scrambler.state = .rekeying →
      exec .txKeyDelivery s = .next ((s.withEngine rested).withContext c (some { x with
        scrambler := { x.scrambler with next := some { n with words := some op.keyWords, fresh := true } } }))) ∧
    (∀ p : PendingKey, op.job = .rxKey c site nonce epoch → x.descrambler.pending = some p → p.nonce = nonce →
      p.epoch = epoch → p.words = none →
      (p.countdown.isSome →
        exec .rxKeyDelivery s = .next ((s.withEngine rested).withContext c (some { x with
          descrambler := { x.descrambler with pending := some { p with words := some op.keyWords } } }))) ∧
      (p.countdown = none →
        exec .rxKeyDelivery s = .next ((s.withEngine rested).withContext c (some { x with
          descrambler := { x.descrambler with
            held := some { nonce := nonce, epoch := epoch, words := op.keyWords }
            pending := none
            state := if x.descrambler.state = .keywait ∧ x.descrambler.sighted = true then .presync
              else x.descrambler.state
            good := if x.descrambler.state = .keywait ∧ x.descrambler.sighted = true then 0
              else x.descrambler.good } }))))

/-! ### Scrambler, descrambler and contexts -/

/-- A boundary in RUNNING emits the collected block as a DATA block under the current key with the next counter; at
counter 65024, and when the rekey interval has run out, a rekey starts in the same frame: a nonce is drawn, the
TX-KEY of the next epoch posted, and the rekey elapsed counter restarted. The model's choice: what falls due in a
frame is marked by fields of the model (log entry 1). -/
def Obligations.RunningBoundaryEmitsData : Prop :=
  ∀ (c : ContextId) (x : Context) (k : CallKey) (s : State), Running s → s.context c = some x →
    x.scrambler.state = .running → x.scrambler.current = some k →
    let nonce : BitVec 24 := s.engine.nonce + 0x5B2C4F + BitVec.ofNat 24 s.clock.reading.frame
    let rekeyed (y : Context) : State :=
      (s.withEngine (Engine.post (.txKey c x.site nonce (k.epoch + 1)) { s.engine with nonce := nonce })).withContext c
        (some { y with
          rekeyElapsed := 0
          scrambler := { y.scrambler with
            state := .rekeying
            next := some { nonce := nonce, epoch := k.epoch + 1, words := none, fresh := false } } })
    let counter : Word := match x.scrambler.last with
      | none => 0
      | some n => n + 1
    let emitted : Context := { x with
      boundaryDue := false
      scrambler := { x.scrambler with
        last := some counter
        emission := .block
          { kind := .data, epoch := k.epoch, counter := counter, nonce := k.nonce, countdown := 0xF }
          (scramble x.profile.segment x.profile.masking k.words counter x.scrambler.collected) } }
    (x.boundaryDue = true →
      (counter ≠ 65024 → exec (.blockBoundary c) s = .next (s.withContext c (some emitted))) ∧
      (counter = 65024 → exec (.blockBoundary c) s = .next (rekeyed emitted))) ∧
    (x.profile.rekeyInterval ≠ 0 → x.profile.rekeyInterval * 480000 ≤ x.rekeyElapsed →
      exec (.rekeyIntervalExpiry c) s = .next (rekeyed x))

/-- The boundaries around a key. KEYING with its key delivered enters RUNNING with an idle period and opens the context,
and waits else. REKEYING with the next key delivered announces it with countdown 3 while the counter allows, goes on
with DATA blocks else, and past block 65535 frees the context with cause EXHAUSTED. ANNOUNCING counts down, and at countdown 0 switches the
key and emits block 0 under it. An entry to RUNNING or ANNOUNCING makes the test of privacy established. CLEARING emits
its CLEAR blocks. The model's choice: what falls due in a frame is marked by fields of the model (log entry 1). -/
def Obligations.KeyBoundariesAnnounceAndSwitch : Prop :=
  ∀ (c : ContextId) (x : Context) (s : State), Running s → s.context c = some x → x.boundaryDue = true →
    let ready (n : NextKey) (w : KeyWords) : Prop := x.scrambler.next = some n ∧ n.words = some w ∧ n.fresh = false
    let unready : Prop := ∀ n, x.scrambler.next = some n → n.words = none ∨ n.fresh = true
    let block (k : KeyWords) (m : Marker) : Emission :=
      .block m (scramble x.profile.segment x.profile.masking k m.counter x.scrambler.collected)
    let enters (y : Context) : Prop :=
      ∃ t, exec (.blockBoundary c) s = .next t ∧ TestsPrivacy c y (s.withContext c (some y)) t
    let stays (sc : Scrambler) : Prop :=
      exec (.blockBoundary c) s = .next (s.withContext c (some { x with boundaryDue := false, scrambler := sc }))
    (∀ n w, ready n w → x.scrambler.state = .keying →
      enters { x with
        phase := .opened, boundaryDue := false
        scrambler := { x.scrambler with
          state := .running, current := some { nonce := n.nonce, epoch := n.epoch, words := w }
          next := none, last := none, countdown := none, emission := .idle } }) ∧
    (unready → x.scrambler.state = .keying → stays { x.scrambler with emission := .idle }) ∧
    (∀ n w (k : CallKey) (last : Word), ready n w → x.scrambler.state = .rekeying → x.scrambler.current = some k →
      x.scrambler.last = some last → last.toNat < 65532 →
      enters { x with
        boundaryDue := false
        scrambler := { x.scrambler with
          state := .announcing, last := some (last + 1), countdown := some 3
          emission := block k.words
            { kind := .announce, epoch := k.epoch, counter := last + 1, nonce := n.nonce, countdown := 3 } } }) ∧
    (∀ (k : CallKey) (last : Word), unready ∨ 65532 ≤ last.toNat → x.scrambler.state = .rekeying →
      x.scrambler.current = some k → x.scrambler.last = some last → last ≠ 0xFFFF →
      stays { x.scrambler with
        last := some (last + 1)
        emission := block k.words
          { kind := .data, epoch := k.epoch, counter := last + 1, nonce := k.nonce, countdown := 0xF } }) ∧
    (∀ (n : NextKey) (k : CallKey) (last : Word) (left : Nat), x.scrambler.state = .announcing →
      x.scrambler.next = some n → x.scrambler.current = some k → x.scrambler.last = some last →
      x.scrambler.countdown = some (left + 1) →
      stays { x.scrambler with
        last := some (last + 1), countdown := some left
        emission := block k.words
          { kind := .announce, epoch := k.epoch, counter := last + 1, nonce := n.nonce
            countdown := BitVec.ofNat 4 left } }) ∧
    (∀ n w, ready n w → x.scrambler.state = .announcing → x.scrambler.countdown = some 0 →
      enters { x with
        boundaryDue := false, rekeys := min (x.rekeys + 1) 65535
        scrambler := { x.scrambler with
          state := .running, current := some { nonce := n.nonce, epoch := n.epoch, words := w }
          next := none, last := some 0, countdown := none
          emission := block w { kind := .data, epoch := n.epoch, counter := 0, nonce := n.nonce, countdown := 0xF } } }) ∧
    (x.scrambler.state = .rekeying → x.scrambler.last = some 0xFFFF → x.phase = .opened →
      ∃ t, exec (.blockBoundary c) s = .next t ∧ t.context c = none ∧ (∀ d, d ≠ c → t.context d = s.context d) ∧
        Freed c x (some .exhausted) (s.withEngine (s.engine.withdraw (Job.isDeriveOf c))) t ∧
        t = { s with
          slots := t.slots, engine := s.engine.withdraw (Job.isDeriveOf c), contexts := t.contexts, events := t.events
          records := t.records }) ∧
    (∀ k : CallKey, x.scrambler.state = .clearing → x.scrambler.current = some k →
      stays { x.scrambler with
        clearCount := min (x.scrambler.clearCount + 1) 2
        emission := .block { kind := .clear, epoch := k.epoch, counter := 0xFFFF, nonce := k.nonce, countdown := 0xF }
          (List.replicate (8 * x.profile.segment) 0) })

/-- REKEY of a context above 63 is refused with BAD-ARGUMENT; of a context whose scrambler is RUNNING it starts
a rekey, which draws a nonce and posts the TX-KEY of the next epoch; in every other case it is refused with
WRONG-STATE, and a refused REKEY draws no nonce. The model's choice: the request acts as a command of its own, before or
after the events of its frame as the sender orders them (log entries 1 and 6). -/
def Obligations.RekeyStarts : Prop :=
  ∀ (body : List Byte) (s : State), Accepts s → body.length = 1 →
    (63 < byteAt body 0 → exec (.rekey body) s = .next (answered 0x44 .badArgument [] s)) ∧
    ∀ c : ContextId, byteAt body 0 = c.val →
      (∀ (x : Context) (k : CallKey), s.context c = some x → x.scrambler.state = .running →
        x.scrambler.current = some k →
        let nonce : BitVec 24 := s.engine.nonce + 0x5B2C4F + BitVec.ofNat 24 s.clock.reading.frame
        exec (.rekey body) s = .next (answered 0x44 .ok [] ((s.withEngine
          (Engine.post (.txKey c x.site nonce (k.epoch + 1)) { s.engine with nonce := nonce })).withContext c
            (some { x with
              rekeyElapsed := 0
              scrambler := { x.scrambler with
                state := .rekeying
                next := some { nonce := nonce, epoch := k.epoch + 1, words := none, fresh := false } } })))) ∧
      ((∀ x, s.context c = some x → x.scrambler.state ≠ .running) →
        exec (.rekey body) s = .next (answered 0x44 .wrongState [] s))

/-- The last frame of the second CLEAR block frees the context: its bindings go, its call record is stored, then
CONTEXT-CLOSED is posted (last of all, unless a PRIVACY-OFF finds its queue full); a partner that reached privacy hears
PRIVACY-OFF by notice and tone; one already gone, or one that never reached privacy, hears nothing. The model's choice: what falls due in a frame is marked by fields of the
model (log entry 1). -/
def Obligations.SecondClearBlockFrees : Prop :=
  ∀ (c : ContextId) (x : Context) (s : State), Running s → s.context c = some x → x.phase = .closing →
    x.scrambler.clearCount = 2 → x.boundaryDue = false → x.offset + 1 = 8 * x.profile.segment → x.tie ≠ x.ext →
    ∃ t, exec (.contextFree c) s = .next t ∧ t.context c = none ∧ Freed c x x.cause s t ∧
      (∀ d, d ≠ c → t.context d = s.context d) ∧
      t.slot x.tie = { s.slot x.tie with boundContext := none } ∧
      (t.slot x.ext).partners = (s.slot x.ext).partners.filter (· != c) ∧
      (∀ j, j ≠ x.tie → j ≠ x.ext → t.slot j = s.slot j) ∧
      t = { s with
        slots := t.slots, contexts := t.contexts, events := t.events, records := t.records } ∧
      t.records = (storeRecord
        { tie := x.tie, ext := x.ext, index := x.index, number := x.number, site := x.site
          openStamp := x.openStamp, closeStamp := s.clock.reading, duration := x.elapsed / 8000, cause := x.cause
          rekeys := x.rekeys, syncLosses := x.syncLosses, reached := x.reached } s).records ∧
      (x.reached = false ∨ x.gone = true →
        t.slot x.ext = { s.slot x.ext with partners := (s.slot x.ext).partners.filter (· != c) }) ∧
      (x.reached = false ∨ x.gone = true ∨ (s.slot x.ext).txQueue.length < 4 →
        t.events = (post .contextClosed (some x.tie) (some c) (some x.index) (causeByte x) s).events)

/-- A hunting descrambler finds nothing while the line side is not LOCKED or its window holds no marker. A DATA or
ANNOUNCE marker found fixes its phase. DATA naming the held key, or a delivered pending one, leads to PRESYNC; naming a
pending key still awaited, to KEYWAIT; naming neither, to KEYWAIT with that key sought from the engine. ANNOUNCE is taken
as an announcement, and leads to PRESYNC when it names the held key as current, to KEYWAIT else. (A CLEAR marker is in
GuardsTimeoutsAndRequestsClose.) The model's choice: what falls due in a frame is marked by fields of the model (log entry
1). -/
def Obligations.HuntingTakesADataMarker : Prop :=
  ∀ (c : ContextId) (x : Context) (s : State), Running s → s.context c = some x → x.phase ≠ .closing →
    x.descrambler.state = .hunt →
    (s.highway.timing ≠ .locked ∨ readMarker (x.descrambler.window.map Prod.fst) = none →
      exec (.huntMarkerFound c) s = .next s) ∧
    ∀ m : Marker, s.highway.timing = .locked → readMarker (x.descrambler.window.map Prod.fst) = some m →
      let fixed : Descrambler := { x.descrambler with
        offset := some 15, buffer := x.descrambler.window.map Prod.snd
        expected := some (if m.kind = .announce ∧ m.countdown = 0 then 0 else m.counter + 1)
        switchDue := decide (m.kind = .announce ∧ m.countdown = 0) }
      let joins (e : Engine) (d : Descrambler) : Prop :=
        ∃ t, exec (.huntMarkerFound c) s = .next t ∧ JoinsPresync c x m.counter d (s.withEngine e) t
      let waits (e : Engine) (d : Descrambler) : Prop :=
        exec (.huntMarkerFound c) s = .next ((s.withEngine e).withContext c (some { x with
          descrambler := { d with state := .keywait, miss := 0, sighted := false } }))
      (m.kind = .data →
        (∀ k : CallKey, x.descrambler.held = some k → m.nonce = k.nonce → m.epoch = k.epoch →
          ((∀ p, x.descrambler.pending = some p → p.countdown.isSome) → joins s.engine fixed) ∧
          (∀ p, x.descrambler.pending = some p → p.countdown = none →
            joins (s.engine.withdraw (Job.isRxOf c)) { fixed with pending := none })) ∧
        ((∀ k : CallKey, x.descrambler.held = some k → m.nonce ≠ k.nonce ∨ m.epoch ≠ k.epoch) →
          (∀ p, x.descrambler.pending = some p → m.nonce = p.nonce → m.epoch = p.epoch →
            (∀ w, p.words = some w → joins s.engine { fixed with
              held := some { nonce := p.nonce, epoch := p.epoch, words := w }, pending := none }) ∧
            (p.words = none → waits s.engine { fixed with pending := some { p with countdown := none } })) ∧
          ((∀ p, x.descrambler.pending = some p → m.nonce ≠ p.nonce ∨ m.epoch ≠ p.epoch) →
            waits ((s.engine.withdraw (Job.isRxOf c)).post (.rxKey c x.site m.nonce m.epoch)) { fixed with
              pending := some { nonce := m.nonce, epoch := m.epoch, countdown := none, words := none } }))) ∧
      (m.kind = .announce →
        (∀ k : CallKey, x.descrambler.held = some k → m.epoch = k.epoch →
          joins (announcedAsks c x m s.engine) (announcedTo m fixed)) ∧
        ((∀ k : CallKey, x.descrambler.held = some k → m.epoch ≠ k.epoch) →
          waits (announcedAsks c x m s.engine) (announcedTo m fixed)))

/-- A marker frame. A switch that is due makes the delivered pending key the held one, or sends the descrambler to KEYWAIT
for an awaited one; the marker is judged after it. A marker that agrees accepts its block in SYNC, returns FLYWHEEL to
SYNC, and counts toward SYNC in PRESYNC; an ANNOUNCE is also taken as an announcement, and at countdown 0 expects the
switch. KEYWAIT joins PRESYNC under the held key or a delivered pending one, marks an awaited one as sighted, and takes
an announcement. A miss accepts the block by count in SYNC and FLYWHEEL, up to the flywheel limit, where sync is lost
with PRIVACY-LOST; it sends PRESYNC, and KEYWAIT at its second, to HUNT. In the last frame of an accepted block it is
restored for the next. (A CLEAR marker is in GuardsTimeoutsAndRequestsClose.) The model's choice: what falls due in a
frame is marked by fields of the model (log entry 1). -/
def Obligations.SyncFollowsTheMarkers : Prop :=
  ∀ (c : ContextId) (x : Context) (s : State), Running s → s.context c = some x →
    let d := x.descrambler
    let found := readMarker (d.window.map Prod.fst)
    (∀ a : Accepted, d.restoreDue = true → d.accepted = some a →
      exec (.blockRestore c) s = .next (s.withContext c (some { x with
        descrambler := { d with
          restoreDue := false, accepted := none
          upcoming := some (restore x.profile.segment x.profile.masking a.key.words a.counter d.buffer) } }))) ∧
    (d.markerDue = true → d.switchDue = true → ∀ p : PendingKey, d.pending = some p →
      let switched (d : Descrambler) : Prop :=
        exec (.markerFrame c) s = exec (.markerFrame c) (s.withContext c (some { x with descrambler := d }))
      (∀ w, p.words = some w → switched { d with
        switchDue := false, held := some { nonce := p.nonce, epoch := p.epoch, words := w }, pending := none }) ∧
      (p.words = none → switched { d with
        switchDue := false, held := none, pending := some { p with countdown := none }, sighted := false
        state := .keywait, miss := if d.state = .keywait then d.miss else 0
        hunt := if d.state = .sync ∨ d.state = .flywheel then some 0 else d.hunt
        accepted := none, restored := none, upcoming := none })) ∧
    (∀ (e : Word) (o : Nat), d.markerDue = true → d.switchDue = false → d.expected = some e → d.offset = some o →
      let risen : Descrambler := { d with markerDue := false, expected := some (e + 1) }
      let heard (m : Marker) : Descrambler :=
        if m.kind = .announce then
          if m.countdown = 0 then { announcedTo m d with markerDue := false, expected := some 0, switchDue := true }
          else { announcedTo m d with markerDue := false, expected := some (e + 1) }
        else risen
      let asked (m : Marker) : Engine := if m.kind = .announce then announcedAsks c x m s.engine else s.engine
      let hunting (h : Option Nat) : Descrambler :=
        { Descrambler.halted with held := d.held, pending := d.pending, hunt := h }
      let accept (d : Descrambler) : Descrambler :=
        { d with accepted := d.held.map fun k => { key := k, counter := e } }
      let put (g : Engine) (d : Descrambler) : State := (s.withEngine g).withContext c (some { x with descrambler := d })
      let goes (g : Engine) (d : Descrambler) : Prop := exec (.markerFrame c) s = .next (put g d)
      let syncs (g : Engine) (d : Descrambler) : Prop :=
        ∃ t, exec (.markerFrame c) s = .next t ∧ TestsPrivacy c { x with descrambler := d } (put g d) t
      let joins (g : Engine) (d : Descrambler) : Prop :=
        ∃ t, exec (.markerFrame c) s = .next t ∧ JoinsPresync c x e d (s.withEngine g) t
      let loses : Prop := ∃ t, exec (.markerFrame c) s = .next t ∧
        let u := post .privacyLost (some x.tie) (some c) (some x.index) 0 (s.withContext c (some { x with
          syncLosses := min (x.syncLosses + 1) 255, descrambler := hunting (some 0) }))
        (x.reached = false → t = u) ∧ (x.reached = true → Noticed x.ext 0x03 s.tones.functions.privacyLost u t)
      let named (m : Marker) : Prop := ∃ k : CallKey, d.held = some k ∧ m.epoch = k.epoch ∧
        (m.kind = .announce ∨ (m.kind = .data ∧ m.nonce = k.nonce))
      let agreed (m : Marker) : Prop := found = some m ∧ m.counter = e ∧ named m
      let missed : Prop := ∀ m, found = some m → m.kind ≠ .clear ∧ ¬(m.counter = e ∧ named m)
      (d.state = .sync →
        (∀ m, agreed m → goes (asked m) (accept (heard m))) ∧
        (missed → 2 ≤ x.profile.flywheel → goes s.engine { accept risen with state := .flywheel, miss := 1 }) ∧
        (missed → x.profile.flywheel ≤ 1 → loses)) ∧
      (d.state = .flywheel →
        (∀ m, agreed m → syncs (asked m) { accept (heard m) with state := .sync, miss := 0, hunt := none }) ∧
        (missed → d.miss + 1 < x.profile.flywheel → goes s.engine { accept risen with miss := d.miss + 1 }) ∧
        (missed → x.profile.flywheel ≤ d.miss + 1 → loses)) ∧
      (d.state = .presync →
        (∀ m, agreed m → d.good + 1 < x.profile.presync → goes (asked m) { heard m with good := d.good + 1 }) ∧
        (∀ m, agreed m → x.profile.presync ≤ d.good + 1 → syncs (asked m)
          { accept (heard m) with state := .sync, good := d.good + 1, miss := 0, hunt := none }) ∧
        (missed → goes s.engine (hunting d.hunt))) ∧
      (d.state = .keywait →
        (∀ m, agreed m → m.kind = .announce ∨ (∀ p, d.pending = some p → p.countdown.isSome) →
          joins (asked m) (heard m)) ∧
        (∀ m p, agreed m → m.kind = .data → d.pending = some p → p.countdown = none →
          joins (s.engine.withdraw (Job.isRxOf c)) { risen with pending := none }) ∧
        (∀ m, found = some m → m.kind = .announce → m.counter = e → ¬named m →
          goes (asked m) { heard m with miss := 0 }) ∧
        (∀ m p, found = some m → m.kind = .data → m.counter = e → ¬named m → d.pending = some p →
          m.nonce = p.nonce → m.epoch = p.epoch →
          (∀ w, p.words = some w → joins s.engine { risen with
            held := some { nonce := p.nonce, epoch := p.epoch, words := w }, pending := none }) ∧
          (p.words = none → goes s.engine { risen with
            pending := some { p with countdown := none }, sighted := true, miss := 0 })) ∧
        ((∀ m, found = some m → m.kind ≠ .clear ∧ (m.counter = e → m.kind = .data ∧ ¬named m ∧
            ∀ p, d.pending = some p → m.nonce ≠ p.nonce ∨ m.epoch ≠ p.epoch)) →
          (d.miss = 0 → goes s.engine { risen with miss := 1 }) ∧
          (1 ≤ d.miss → goes s.engine (hunting d.hunt)))))

/-- The hunt limit, the clear guard on either slot, a CLEAR marker found in HUNT or judged at a marker frame, and
CLOSE-PRIVACY close a context whose scrambler runs or announces with their cause: its derives are withdrawn, its
descrambler halts and its scrambler is CLEARING. A context whose scrambler is still KEYING, or REKEYING, is freed at once,
its call record stored and CONTEXT-CLOSED posted with the cause. CLOSE-PRIVACY of a context above 63 is refused with
BAD-ARGUMENT, and of one in FREE or CLOSING with WRONG-STATE.
The model's choice: what falls due in a frame is marked by fields of the model (log entry 1). -/
def Obligations.GuardsTimeoutsAndRequestsClose : Prop :=
  (∀ (c : ContextId) (x : Context) (s : State), Running s → s.context c = some x → x.phase ≠ .closing →
    let closed (cause : CloseCause) : State :=
      (s.withEngine (s.engine.withdraw (Job.isDeriveOf c))).withContext c (some { x with
        phase := .closing, cause := some cause, descrambler := Descrambler.halted
        scrambler := { x.scrambler with state := .clearing, next := none, countdown := none, clearCount := 0 } })
    let freed (cause : CloseCause) (t : State) : Prop :=
      t.context c = none ∧ (∀ d, d ≠ c → t.context d = s.context d) ∧
        Freed c x (some cause) (s.withEngine (s.engine.withdraw (Job.isDeriveOf c))) t ∧
        t = { s with
          slots := t.slots, engine := s.engine.withdraw (Job.isDeriveOf c), contexts := t.contexts, events := t.events
          records := t.records }
    let clears : Prop :=
      ∃ m, readMarker (x.descrambler.window.map Prod.fst) = some m ∧ m.kind = .clear
    (x.boundaryDue = false → x.scrambler.state = .running ∨ x.scrambler.state = .announcing →
      (∀ n, x.descrambler.hunt = some n → x.profile.huntLimit ≤ n →
        exec (.huntTimeout c) s = .next (closed .noSync)) ∧
      (x.elapsed ≠ 0 → s.highway.observed = true → (s.slot x.ext).changeDue = false →
        x.profile.clearGuard ≤ (s.slot x.ext).idle →
        exec (.clearGuardExpiry c .extension) s = .next (closed .extensionIdle)) ∧
      (x.elapsed ≠ 0 → s.highway.observed = true → (s.slot x.tie).changeDue = false →
        x.profile.clearGuard ≤ (s.slot x.tie).idle →
        exec (.clearGuardExpiry c .tie) s = .next (closed .tieIdle)) ∧
      (clears → s.highway.timing = .locked → x.descrambler.state = .hunt →
        exec (.huntMarkerFound c) s = .next (closed .farClear)) ∧
      (clears → x.descrambler.markerDue = true → exec (.markerFrame c) s = .next (closed .farClear)) ∧
      (Accepts s → exec (.closePrivacy [byte c]) s = .next (answered 0x43 .ok [] (closed .management)))) ∧
    (x.scrambler.state = .keying ∨ x.scrambler.state = .rekeying →
      (∀ n, x.descrambler.hunt = some n → x.profile.huntLimit ≤ n →
        ∃ t, exec (.huntTimeout c) s = .next t ∧ freed .noSync t) ∧
      (x.elapsed ≠ 0 → s.highway.observed = true → (s.slot x.ext).changeDue = false →
        x.profile.clearGuard ≤ (s.slot x.ext).idle →
        ∃ t, exec (.clearGuardExpiry c .extension) s = .next t ∧ freed .extensionIdle t) ∧
      (x.elapsed ≠ 0 → s.highway.observed = true → (s.slot x.tie).changeDue = false →
        x.profile.clearGuard ≤ (s.slot x.tie).idle →
        ∃ t, exec (.clearGuardExpiry c .tie) s = .next t ∧ freed .tieIdle t) ∧
      (clears → s.highway.timing = .locked → x.descrambler.state = .hunt →
        ∃ t, exec (.huntMarkerFound c) s = .next t ∧ freed .farClear t) ∧
      (clears → x.descrambler.markerDue = true → ∃ t, exec (.markerFrame c) s = .next t ∧ freed .farClear t) ∧
      (Accepts s → ∃ t, exec (.closePrivacy [byte c]) s = .next (answered 0x43 .ok [] t) ∧ freed .management t))) ∧
  (∀ (body : List Byte) (s : State), Accepts s → body.length = 1 →
    (63 < byteAt body 0 → exec (.closePrivacy body) s = .next (answered 0x43 .badArgument [] s)) ∧
    ∀ c : ContextId, byteAt body 0 = c.val →
      (s.context c = none ∨ ∃ x, s.context c = some x ∧ x.phase = .closing) →
        exec (.closePrivacy body) s = .next (answered 0x43 .wrongState [] s))

/-! ### Tones -/

/-- The end of a burst ends the tone after its last burst and starts the pending one (none when its descriptor is
empty), or begins the gap, or the next burst when the gap is 0; the end of a gap begins the next burst. -/
def Obligations.BurstsAndGapsEnd : Prop :=
  ∀ (i : SlotId) (x : Tone) (s : State), Running s → (s.slot i).tone = some x →
    let next : Tone := { x with
      begun := if x.descriptor.bursts = 0 then x.begun else x.begun + 1, phase := .burst 0 }
    (∀ k, x.phase = .burst k → 2 * x.descriptor.halfPeriod * x.descriptor.periods ≤ k →
      (x.descriptor.bursts ≠ 0 → x.descriptor.bursts ≤ x.begun →
        ((s.slot i).pendingTone = none →
          exec (.burstEnd i) s = .next (s.withSlot i { s.slot i with tone := none })) ∧
        (∀ (p : PendingTone) (d : ToneDescriptor), (s.slot i).pendingTone = some p →
          s.tones.descriptors[p.index] = some d →
          exec (.burstEnd i) s = .next (s.withSlot i { s.slot i with
            pendingTone := none
            tone := some { descriptor := d, index := p.index, begun := 1, phase := .burst 0 } })) ∧
        (∀ p : PendingTone, (s.slot i).pendingTone = some p → s.tones.descriptors[p.index] = none →
          exec (.burstEnd i) s = .next (s.withSlot i { s.slot i with pendingTone := none, tone := none }))) ∧
      (x.descriptor.bursts = 0 ∨ x.begun < x.descriptor.bursts → x.descriptor.gap ≠ 0 →
        exec (.burstEnd i) s = .next (s.withSlot i { s.slot i with tone := some { x with phase := .gap 0 } })) ∧
      (x.descriptor.bursts = 0 ∨ x.begun < x.descriptor.bursts → x.descriptor.gap = 0 →
        exec (.burstEnd i) s = .next (s.withSlot i { s.slot i with tone := some next }))) ∧
    (∀ k, x.phase = .gap k → x.descriptor.gap ≤ k →
      exec (.gapEnd i) s = .next (s.withSlot i { s.slot i with tone := some next }))

/-- R156: the code of sample k of a burst. Its sign is positive when k mod 2H is below H; its magnitude is A0 less D for
each S whole periods before it, or 0; the first sample is positive, and a burst with D of 0 keeps its magnitude. -/
def Obligations.BurstCodesFade : Prop :=
  ∀ (d : ToneDescriptor) (k : Nat), 2 ≤ d.halfPeriod → 1 ≤ d.step → 1 ≤ d.magnitude → d.magnitude ≤ 127 →
    k < 2 * d.halfPeriod * d.periods →
    ((burstCode d k).toNat =
      (if k % (2 * d.halfPeriod) < d.halfPeriod then 0 else 128) +
        (d.magnitude - d.decrement * (k / (2 * d.halfPeriod) / d.step))) ∧
    ((burstCode d k).getLsbD 7 = true ↔ d.halfPeriod ≤ k % (2 * d.halfPeriod)) ∧
    (burstCode d 0).getLsbD 7 = false ∧ (d.decrement = 0 → (burstCode d k).toNat % 128 = d.magnitude)

/-! ### The Maintenance Port and its requests -/

/-- A rejected message is counted; an unknown code is held for the answer UNKNOWN-REQUEST; a body that is not of its
request's size is held for BAD-LENGTH and changes nothing; a request that completes while two are held is discarded
with the overrun mark; a held request's response begins with D2 4B and clears the mark; after its last word its
request leaves the buffer. A response is its start, its length, the code plus 0x80, the status, the flags as they then
stand, the body and its check. A maintenance idle word still to be formed at the frame's end shows its posts and stores.
The model's choices: what falls due in a frame is marked by fields of the model; a completed message or request is a
command of its own (log entries 1 and 6); the sender says whether an idle word is formed before or after the posts of its
frame (log entry 3). -/
def Obligations.PortMovesMessages : Prop :=
  ∀ s : State, Running s →
    exec .rejectedMessage s = .next (s.withPort { s.port with
      assembler := .hunt none, rejected := min (s.port.rejected + 1) 65535 }) ∧
    (∀ code body, s.port.holding.length < 2 →
      exec (.unknownRequest code body) s = .next (answered code .unknownRequest [] s)) ∧
    (∀ code body, 2 ≤ s.port.holding.length →
      exec (.unknownRequest code body) s =
        .next (s.withPort { s.port with assembler := .hunt none, overrun := true })) ∧
    (∀ (code : Byte) (size : Nat) (act : List Byte → State → Answer) (body : List Byte),
      (s.port.holding.length < 2 → body.length ≠ size →
        request code size act body s = answered code .badLength [] s) ∧
      (2 ≤ s.port.holding.length →
        request code size act body s = s.withPort { s.port with assembler := .hunt none, overrun := true })) ∧
    (∀ (h : Held) (rest : List Held), s.port.startDue = true → s.port.transmitter = .idle →
      s.port.holding = h :: rest →
      exec .responseStart s = .next (s.withPort { s.port with
        word := 0xD24B, overrun := false, startDue := false
        transmitter := .sending ((responseBytes h s).drop 2) })) ∧
    (∀ h : Held, ∃ flags : Byte,
      let counted := bytes16 (h.body.length + 3) ++ [h.code + 0x80, h.status, flags] ++ h.body
      responseBytes h s = [0xD2, 0x4B] ++ counted ++ bytes16 ((counted.map BitVec.toNat).sum % 65536) ∧
        (flags.getLsbD 0 = true ↔ s.events.queue ≠ []) ∧ (flags.getLsbD 1 = true ↔ s.records.queue ≠ []) ∧
        (flags.getLsbD 2 = true ↔ s.port.overrun = true) ∧ (flags.getLsbD 3 = true ↔ s.highway.timing ≠ .locked) ∧
        flags.toNat < 16) ∧
    (s.clock.timebase = .running → s.port.transmitter = .idle → s.port.startDue = false →
      ∃ t, exec .framePulseStop s = .next t ∧ t.port = { s.port with
        idleWordDue := false
        word := if s.port.idleWordDue = false then s.port.word
          else if t.events.queue = [] ∧ t.records.queue = [] then 0 else 1 }) ∧
    (s.port.transmitter = .sending [] →
      exec .responseEnd s = .next (s.withPort { s.port with
        transmitter := .idle, holding := s.port.holding.tail }))

/-- GET-STATUS and READ-CONTEXT answer from the state and change nothing: READ-CONTEXT answers 50 bytes, of a FREE
context the index, 0 and 48 bytes of all ones, of any other its fields, one that is absent all ones, and refuses a context above 63. SET-TIMERS
writes its four values clamped. -/
def Obligations.StatusAndTimersRequests : Prop :=
  ∀ s : State, Accepts s →
    (exec (.getStatus []) s = .next (answered 0x01 .ok
      ([0x31, 0x60, 1, byte s.highway.timing.code] ++ bytes16 s.highway.slipCount ++ bytes16 s.port.rejected ++
        [byte s.events.queue.length, byte s.records.queue.length] ++ stampBytes s.clock.reading ++
        [byte (contextIds.countP fun c => (s.context c).isSome),
          byte (slotIds.countP fun i => (s.slot i).isAdmitted)]) s)) ∧
    (∀ body : List Byte, body.length = 8 →
      exec (.setTimers body) s = .next (answered 0x03 .ok [] { s with
        timers :=
          { responseTimeout := max 400 (min (field16 body 0) 16000), refusalHold := min (field24 body 2) 240000 }
        highway := { s.highway with
          lossWindow := max 2 (min (byteAt body 5) 16), lossHoldLimit := max 4000 (min (field16 body 6) 64000) } })) ∧
    (∀ body : List Byte, body.length = 1 → 63 < byteAt body 0 →
      exec (.readContext body) s = .next (answered 0x45 .badArgument [] s)) ∧
    (∀ c : ContextId,
      (s.context c = none →
        exec (.readContext [byte c]) s =
          .next (answered 0x45 .ok ([byte c, 0] ++ List.replicate 48 0xFF) s)) ∧
      (∀ x, s.context c = some x →
        ∃ body, exec (.readContext [byte c]) s = .next (answered 0x45 .ok body s) ∧ body.length = 50 ∧
          body = [byte c, match x.phase with | .opening => 1 | .opened => 2 | .closing => 3,
              byte x.tie.number, byte x.ext.number] ++
            bytes16 x.index ++ bytes24 x.number.toNat ++ [byte x.site] ++
            bytes16 (match s.sites[x.site] with | none => 0xFFFF | some y => y.identifier.toNat) ++
            [byte x.profile.segment, if x.profile.masking then 1 else 0, byte x.profile.presync,
              byte x.profile.flywheel] ++
            bytes24 x.profile.huntLimit ++ bytes16 x.profile.clearGuard ++ bytes16 x.profile.rekeyInterval ++
            bytes16 x.openStamp.day ++
            [byte x.openStamp.hour, byte x.openStamp.minute, byte x.openStamp.second] ++ bytes16 x.openStamp.frame ++
            bytes32 x.elapsed ++ bytes32 x.rekeyElapsed ++ bytes16 x.rekeys ++
            [byte x.syncLosses, if x.reached then 1 else 0,
              match x.cause with | none => 0xFF | some cause => byte cause.code,
              byte x.scrambler.state.code,
              match x.scrambler.current with | none => 0xFF | some k => k.epoch.setWidth 8] ++
            bytes24 (match x.scrambler.last with | none => 0xFFFFFF | some n => n.toNat) ++
            [byte x.descrambler.state.code,
              match x.descrambler.held with | none => 0xFF | some k => k.epoch.setWidth 8]))

/-- RESET frees every context in ascending order, its call record stored with the cause of the request, or with that of
its close when it was CLOSING, ends every admission, sign-on and hold, empties the engine's list, the players and the
transmit queues, and keeps the tables, every directory record with its counter and standing, and the engine levels;
ERASE-SECRETS does the same and also empties the directory and the site table. The events they post are CONTEXT-CLOSED,
then SIGNED-OFF, and no other: a context that was in CLOSING is freed without PRIVACY-OFF too (the model's reading of the
spec, log entry 21). -/
def Obligations.SoftResetsClear : Prop :=
  ∀ s : State, Accepts s →
    let cleared (close : CloseCause) (cause : Byte) (t : State) : Prop :=
      let swept := freedInTurn (fun _ => true) (fun y => if y.phase = .closing then y.cause else some close) contextIds s
      (∀ c, t.context c = none) ∧ t.records = swept.records ∧
      (∀ i, (t.slot i).isAdmitted = false ∧ (t.slot i).signingOn = false ∧ (t.slot i).admission ≠ .hold ∧
        (t.slot i).txQueue = [] ∧ (t.slot i).transmitter = .idle ∧ (t.slot i).tone = none ∧
        (t.slot i).pendingTone = none ∧ (t.slot i).kind = (s.slot i).kind ∧
        (t.slot i).filterLength = (s.slot i).filterLength ∧ (t.slot i).filtered = (s.slot i).filtered ∧
        (t.slot i).candidate = (s.slot i).candidate ∧ (t.slot i).persistence = (s.slot i).persistence ∧
        (t.slot i).idle = (s.slot i).idle ∧ (t.slot i).assembler = (s.slot i).assembler ∧
        (t.slot i).garbled = (s.slot i).garbled) ∧
      t.engine.requests = [] ∧ t.engine.operation = none ∧ t.engine.nonce = s.engine.nonce ∧
      t.engine.rxLevel = s.engine.rxLevel ∧ t.engine.txLevel = s.engine.txLevel ∧
      t.engine.verifyLevel = s.engine.verifyLevel ∧
      t.classes = s.classes ∧ t.visitors.rules = s.visitors.rules ∧ t.visitors.maskA = s.visitors.maskA ∧
      t.visitors.maskB = s.visitors.maskB ∧ (AdmissionSound s → t.visitors.count = 0) ∧ t.timers = s.timers ∧
      t.tones = s.tones ∧ t.clock = s.clock ∧ t.highway = s.highway ∧ t.port = s.port ∧
      t.events.mask = s.events.mask ∧ ∃ closed ended, t.events.queue = s.events.queue ++ closed ++ ended ∧
        swept.events.queue = s.events.queue ++ closed ∧ (∀ e ∈ closed, e.kind = .contextClosed) ∧ ∀ e ∈ ended, e.kind = .signedOff ∧ e.detail = cause
    (∃ t, exec (.reset []) s = .next (answered 0x04 .ok [] t) ∧ cleared .reset 8 t ∧ t.sites = s.sites ∧
      (∀ r, s.record r = none → t.record r = none) ∧
      (∀ r x, s.record r = some x → ∃ y, t.record r = some y ∧
        { y with admittedSlot := none, pendingSlot := none } =
          ({ x with admittedSlot := none, pendingSlot := none } : Record)) ∧
      (AdmissionSound s → ∀ r, t.record r = (s.record r).map fun x =>
        { x with admittedSlot := none, pendingSlot := none })) ∧
    (∃ t, exec (.eraseSecrets []) s = .next (answered 0x05 .ok [] t) ∧ cleared .erased 9 t ∧
      (∀ r, t.record r = none) ∧ (∀ i : SiteId, t.sites[i] = none))

/-- SET-SLOT refuses a slot number of 0 or above 127 and a kind above 3, then a slot in use; otherwise it times the filter afresh under the clamped length, and a new kind
resets the record's dynamic fields. The model's choices: what falls due in a frame is marked by fields of the model (log
entry 1); a filter set afresh acts from the next frame delivered (log entry 20); a message start that was due does not
take place under a new kind (log entry 24). -/
def Obligations.SetSlotWritesTheKind : Prop :=
  (∀ (i : SlotId) (k : Kind) (n : Nat) (s : State), Accepts s → n ≤ 255 →
    ((s.slot i).inUse = true →
      exec (.setSlot [byte i.number, byte k.code, byte n]) s = .next (answered 0x10 .inUse [] s)) ∧
    ((s.slot i).inUse = false → k ≠ (s.slot i).kind →
      ∃ r, exec (.setSlot [byte i.number, byte k.code, byte n]) s = .next (answered 0x10 .ok [] (s.withSlot i r)) ∧
        r.kind = k ∧ r.filterLength = min n 15 ∧ r.filtered = 0 ∧ r.candidate = 0 ∧ r.persistence = 0 ∧ r.idle = 0 ∧
        r.admission = .locked ∧ r.boundIndex = none ∧ r.number = none ∧ r.challenge = none ∧ r.visitor = false ∧
        r.responseTimer = none ∧ r.refusalHold = none ∧ r.boundContext = none ∧ r.partners = [] ∧
        r.assembler = .hunt none ∧ r.garbled = 0 ∧ r.txQueue = [] ∧ r.transmitter = .idle ∧ r.tone = none ∧
        r.pendingTone = none ∧ r.gate = (s.slot i).gate) ∧
    ((s.slot i).inUse = false → k = (s.slot i).kind → (s.slot i).changeDue = false →
      exec (.setSlot [byte i.number, byte k.code, byte n]) s = .next (answered 0x10 .ok [] (s.withSlot i
        { s.slot i with
          filterLength := min n 15, candidate := (s.slot i).filtered, persistence := 0, filterFresh := true })))) ∧
  (∀ (body : List Byte) (s : State), Accepts s → body.length = 3 →
    byteAt body 0 = 0 ∨ 127 < byteAt body 0 ∨ 3 < byteAt body 1 →
    exec (.setSlot body) s = .next (answered 0x10 .badArgument [] s))

/-- READ-SLOT answers the 25 bytes of the record, all ones in a field that is absent or does not apply to the slot's kind or
state, and clears the garbled count alone; FORCE-SIGN-OFF acts by the slot's kind and admission state; both refuse a slot
number of 0 or above 127. That the last byte is the garbled count on a slot of every kind, and that a timer at its limit has
0 frames left in the frame it falls due and 1 when a lowered limit ends it in the next, is the model's reading of the spec
(log entry 12, DEDUCED). -/
def Obligations.ReadSlotAndForceSignOff : Prop :=
  (∀ (body : List Byte) (s : State), Accepts s → body.length = 1 → byteAt body 0 = 0 ∨ 127 < byteAt body 0 →
    exec (.readSlot body) s = .next (answered 0x11 .badArgument [] s) ∧
      exec (.forceSignOff body) s = .next (answered 0x12 .badArgument [] s)) ∧
  ∀ (i : SlotId) (s : State), Accepts s →
    (let r := s.slot i
      let shown (v : Option Nat) (absent : Nat) : Nat := if r.kind = .extension then v.getD absent else absent
      let left (limit : Nat) (x : Timer) : Nat :=
        if x.elapsed < limit then limit - x.elapsed else if x.due then 0 else 1
      ∃ body, exec (.readSlot [byte i.number]) s =
          .next (answered 0x11 .ok body (s.withSlot i { s.slot i with garbled := 0 })) ∧
        body.length = 25 ∧
        body = [byte i.number, byte r.kind.code, byte r.filterLength, r.filtered.setWidth 8, r.candidate.setWidth 8,
            byte r.persistence, byte (r.idle / 256), byte r.idle, byte (shown (some r.admission.code) 0xFF)] ++
          bytes16 (shown (r.boundIndex.map Fin.val) 0xFFFF) ++
          [byte (shown (some (if r.visitor then 1 else 0)) 0xFF)] ++
          bytes24 (shown (r.number.map BitVec.toNat) 0xFFFFFF) ++
          bytes24 (shown (match r.admission with
            | .challenged => r.responseTimer.map (left s.timers.responseTimeout)
            | .hold => r.refusalHold.map (left s.timers.refusalHold)
            | _ => none) 0xFFFFFF) ++
          [byte (match r.kind, r.boundContext with
              | .tie, some c => c.val
              | _, _ => 0xFF),
            byte (shown (some r.partners.length) 0xFF)] ++
          [0, 1, 2, 3].map (fun k => byte (shown (r.partners[k]?.map Fin.val) 0xFF)) ++ [byte r.garbled]) ∧
    ((s.slot i).kind ≠ .extension → exec (.forceSignOff [byte i.number]) s = .next (answered 0x12 .wrongState [] s)) ∧
    ((s.slot i).kind = .extension →
      ((s.slot i).admission = .locked ∨ (s.slot i).admission = .hold →
        exec (.forceSignOff [byte i.number]) s = .next (answered 0x12 .wrongState [] s)) ∧
      ((s.slot i).signingOn = true →
        exec (.forceSignOff [byte i.number]) s = .next (answered 0x12 .ok [] (abandon i s))) ∧
      ((s.slot i).isAdmitted = true →
        exec (.forceSignOff [byte i.number]) s = .next (answered 0x12 .ok [] (signOffSlot .management i s))))

/-- LOAD-ENTRY of a legal body at a record not in use, whose number no other record and no visitor holds, writes the
record afresh with a counter of 0 and standing GOOD, and posts STANDING-CHANGED when it was not GOOD. An index above 511, a
malformed number or a class above 7 is refused with BAD-ARGUMENT; then a record that a slot is admitted or signing on under,
and a visitor's number, with IN-USE; then a number that another record holds with DUPLICATE. -/
def Obligations.EntriesAreLoaded : Prop :=
  (∀ (r : RecordId) (n : ExtensionNumber) (k : ClassId) (body : List Byte) (s : State), Accepts s → body.length = 20 →
    field16 body 0 = r.val → field24 body 2 = n.toNat → byteAt body 19 = k.val → wellFormedNumber n = true →
    (∀ x, s.record r = some x → x.admittedSlot = none ∧ x.pendingSlot = none) →
    (∀ i, (s.slot i).isAdmitted = true → (s.slot i).visitor = true → (s.slot i).number ≠ some n) →
    (∀ q x, s.record q = some x → x.number = n → q = r) →
    let written := s.withRecord r (some
      { number := n, serial := BitVec.ofNat 48 (field48 body 5), secret := fieldKey body 11, cls := k, faults := 0
        standing := .good, admittedSlot := none, lastSignOn := none, pendingSlot := none })
    ((∃ x, s.record r = some x ∧ x.standing ≠ .good) →
      exec (.loadEntry body) s =
        .next (answered 0x20 .ok [] (post .standingChanged none none (some r) 0 written))) ∧
    ((∀ x, s.record r = some x → x.standing = .good) →
      exec (.loadEntry body) s = .next (answered 0x20 .ok [] written))) ∧
  (∀ (body : List Byte) (s : State), Accepts s → body.length = 20 →
    let n : ExtensionNumber := BitVec.ofNat 24 (field24 body 2)
    (511 < field16 body 0 ∨ wellFormedNumber n = false ∨ 7 < byteAt body 19 →
      exec (.loadEntry body) s = .next (answered 0x20 .badArgument [] s)) ∧
    ∀ r : RecordId, field16 body 0 = r.val → wellFormedNumber n = true → byteAt body 19 ≤ 7 →
      let busy : Prop := (∃ x, s.record r = some x ∧ (x.admittedSlot.isSome ∨ x.pendingSlot.isSome)) ∨
        ∃ i, (s.slot i).isAdmitted = true ∧ (s.slot i).visitor = true ∧ (s.slot i).number = some n
      (busy → exec (.loadEntry body) s = .next (answered 0x20 .inUse [] s)) ∧
      (¬busy → (∃ q x, q ≠ r ∧ s.record q = some x ∧ x.number = n) →
        exec (.loadEntry body) s = .next (answered 0x20 .duplicate [] s)))

/-- R54: DELETE-ENTRY refuses an index above 511, then a free record, then one that a slot is admitted or signing on
under, as the record of a context in OPENING or OPEN is; otherwise the record becomes free and nothing else changes. -/
def Obligations.EntriesAreDeleted : Prop :=
  ∀ (body : List Byte) (s : State), Accepts s → body.length = 2 →
    (511 < field16 body 0 → exec (.deleteEntry body) s = .next (answered 0x21 .badArgument [] s)) ∧
    ∀ r : RecordId, field16 body 0 = r.val →
      (s.record r = none → exec (.deleteEntry body) s = .next (answered 0x21 .notFound [] s)) ∧
      (∀ x, s.record r = some x → (x.admittedSlot.isSome ∨ x.pendingSlot.isSome) →
        exec (.deleteEntry body) s = .next (answered 0x21 .inUse [] s)) ∧
      (∀ x, s.record r = some x → x.admittedSlot = none → x.pendingSlot = none →
        exec (.deleteEntry body) s = .next (answered 0x21 .ok [] (s.withRecord r none))) ∧
      (AdmissionSound s → CallsTrusted s → ∀ c y, s.context c = some y → y.phase ≠ .closing → y.index = r →
        exec (.deleteEntry body) s = .next (answered 0x21 .inUse [] s))

/-- READ-DIRECTORY changes nothing and answers, 23 bytes each, the first in-use records from its start upward in index
order, as many as its count: every one there is, unless the count is reached. The next index follows the last record
then, and is 512 else. SET-STANDING reinstates a record with a counter of 0, or bars it: counter 255, its pending sign-on
and its admission ended. Values out of range, and a free record, are refused. -/
def Obligations.DirectoryIsReadAndJudged : Prop :=
  ∀ s : State, Accepts s →
    (∀ body : List Byte, body.length = 3 →
      (511 < field16 body 0 ∨ byteAt body 2 = 0 ∨ 16 < byteAt body 2 →
        exec (.readDirectory body) s = .next (answered 0x22 .badArgument [] s)) ∧
      (field16 body 0 ≤ 511 → 1 ≤ byteAt body 2 → byteAt body 2 ≤ 16 →
        ∃ (found : List (RecordId × Record)) (next : Nat),
          exec (.readDirectory body) s = .next (answered 0x22 .ok (bytes16 next ++ [byte found.length] ++
            found.flatMap fun e => bytes16 e.1 ++ bytes24 e.2.number.toNat ++ bytes48 e.2.serial.toNat ++
              [byte e.2.cls, byte e.2.faults,
                match e.2.standing with | .good => 0 | .suspect => 1 | .barred => 2,
                match e.2.admittedSlot with | none => 0xFF | some i => byte i.number,
                match e.2.pendingSlot with | none => 0xFF | some i => byte i.number] ++
              match e.2.lastSignOn with
                | none => List.replicate 7 0xFF
                | some stamp => bytes16 stamp.day ++ [byte stamp.hour, byte stamp.minute, byte stamp.second] ++
                    bytes16 stamp.frame) s) ∧
          found.length ≤ byteAt body 2 ∧ found.Pairwise (fun p q => p.1 < q.1) ∧
          (∀ r x, (r, x) ∈ found → field16 body 0 ≤ r.val ∧ s.record r = some x) ∧
          (∀ r x, field16 body 0 ≤ r.val → s.record r = some x →
            (r, x) ∈ found ∨ (found.length = byteAt body 2 ∧ ∀ e ∈ found, e.1 < r)) ∧
          (found.length < byteAt body 2 → next = 512) ∧
          (found.length = byteAt body 2 → ∃ e, found.getLast? = some e ∧ next = e.1.val + 1))) ∧
    (∀ body : List Byte, body.length = 3 →
      (511 < field16 body 0 ∨ 1 < byteAt body 2 →
        exec (.setStanding body) s = .next (answered 0x23 .badArgument [] s)) ∧
      (∀ r : RecordId, field16 body 0 = r.val → byteAt body 2 ≤ 1 → s.record r = none →
        exec (.setStanding body) s = .next (answered 0x23 .notFound [] s))) ∧
    (∀ (r : RecordId) (x : Record) (body : List Byte), body.length = 3 → field16 body 0 = r.val →
      s.record r = some x →
      (byteAt body 2 = 0 → x.standing = .good →
        exec (.setStanding body) s =
          .next (answered 0x23 .ok [] (s.withRecord r (some { x with faults := 0, standing := .good })))) ∧
      (byteAt body 2 = 0 → x.standing ≠ .good →
        exec (.setStanding body) s = .next (answered 0x23 .ok [] (post .standingChanged none none (some r) 0
          (s.withRecord r (some { x with faults := 0, standing := .good }))))) ∧
      (byteAt body 2 = 1 →
        ∃ t y, exec (.setStanding body) s = .next (answered 0x23 .ok [] t) ∧ t.record r = some y ∧
          t = { s with
            slots := t.slots, directory := t.directory, visitors := t.visitors, engine := t.engine
            contexts := t.contexts, events := t.events, records := t.records } ∧
          y.faults = 255 ∧ y.standing = .barred ∧
          (∀ a, x.admittedSlot = some a → x.pendingSlot ≠ some a → (s.slot a).isAdmitted = true →
            (s.slot a).boundIndex = some r → (t.slot a).admission = .locked ∧ y.admittedSlot = none) ∧
          (∀ p, x.pendingSlot = some p → (s.slot p).signingOn = true →
            (∀ q z, s.record q = some z → z.pendingSlot = some p → q = r) →
            (t.slot p).signingOn = false ∧ y.pendingSlot = none)))

/-- R62: LOAD-VISITOR-RULE refuses a rule or class above 7, a flag or mask select above 1 and a pattern position of 0xA
to 0xE, and else writes the rule; SET-VISITOR-MASKS refuses a value above 0x3F, and else writes both masks. A mask bit
compares its position with the pattern's nibble, and a position it does not care for matches. -/
def Obligations.VisitorRulesAreLoaded : Prop :=
  (∀ (body : List Byte) (s : State), Accepts s →
    (∀ (v : Fin 8) (k : ClassId), body.length = 7 → byteAt body 0 = v.val → byteAt body 1 ≤ 1 →
      (∀ d ∈ positions (BitVec.ofNat 24 (field24 body 2)), d ≤ 9 ∨ d = 0xF) → byteAt body 5 ≤ 1 → byteAt body 6 = k.val →
      exec (.loadVisitorRule body) s = .next (answered 0x25 .ok [] { s with visitors := { s.visitors with
        rules := s.visitors.rules.set v
          { inUse := byteAt body 1 == 1, pattern := BitVec.ofNat 24 (field24 body 2)
            mask := if byteAt body 5 = 0 then .a else .b, cls := k } } })) ∧
    (body.length = 7 → 7 < byteAt body 0 ∨ 1 < byteAt body 1 ∨
        (∃ d ∈ positions (BitVec.ofNat 24 (field24 body 2)), 0xA ≤ d ∧ d ≤ 0xE) ∨
        1 < byteAt body 5 ∨ 7 < byteAt body 6 →
      exec (.loadVisitorRule body) s = .next (answered 0x25 .badArgument [] s)) ∧
    (body.length = 2 → byteAt body 0 ≤ 0x3F → byteAt body 1 ≤ 0x3F →
      exec (.setVisitorMasks body) s = .next (answered 0x26 .ok [] { s with visitors := { s.visitors with
        maskA := BitVec.ofNat 6 (byteAt body 0), maskB := BitVec.ofNat 6 (byteAt body 1) } })) ∧
    (body.length = 2 → 0x3F < byteAt body 0 ∨ 0x3F < byteAt body 1 →
      exec (.setVisitorMasks body) s = .next (answered 0x26 .badArgument [] s))) ∧
  (∀ (mask : BitVec 6) (pattern n : ExtensionNumber), matchesPattern mask pattern n = true ↔
    ∀ k, k < 6 → mask.getLsbD k = true → pattern.extractLsb' (4 * k) 4 = n.extractLsb' (4 * k) 4)

/-- SET-ENGINE-LEVELS writes three levels of 0 to 3; LOAD-SITE and CLEAR-SITE write a site that no context names,
LOAD-SITE refusing an identifier that another site holds. -/
def Obligations.LevelsAndSitesAreLoaded : Prop :=
  ∀ (body : List Byte) (s : State), Accepts s →
    (body.length = 3 → byteAt body 0 ≤ 3 → byteAt body 1 ≤ 3 → byteAt body 2 ≤ 3 →
      exec (.setEngineLevels body) s = .next (answered 0x30 .ok [] (s.withEngine { s.engine with
        rxLevel := byteAt body 0, txLevel := byteAt body 1, verifyLevel := byteAt body 2 }))) ∧
    (body.length = 3 → 3 < byteAt body 0 ∨ 3 < byteAt body 1 ∨ 3 < byteAt body 2 →
      exec (.setEngineLevels body) s = .next (answered 0x30 .badArgument [] s)) ∧
    (∀ i : SiteId, body.length = 11 → byteAt body 0 = i.val →
      ((∃ c x, s.context c = some x ∧ x.site = i) →
        exec (.loadSite body) s = .next (answered 0x40 .inUse [] s)) ∧
      ((∀ c x, s.context c = some x → x.site ≠ i) →
        ((∃ (j : SiteId) (y : Site), j ≠ i ∧ s.sites[j] = some y ∧ y.identifier = BitVec.ofNat 16 (field16 body 1)) →
          exec (.loadSite body) s = .next (answered 0x40 .duplicate [] s)) ∧
        ((∀ (j : SiteId) (y : Site), j ≠ i → s.sites[j] = some y → y.identifier ≠ BitVec.ofNat 16 (field16 body 1)) →
          exec (.loadSite body) s = .next (answered 0x40 .ok [] { s with
            sites := s.sites.set i (some
              { identifier := BitVec.ofNat 16 (field16 body 1), key := fieldKey body 3 }) })))) ∧
    (∀ i : SiteId, body.length = 1 → byteAt body 0 = i.val →
      ((∃ c x, s.context c = some x ∧ x.site = i) →
        exec (.clearSite body) s = .next (answered 0x41 .inUse [] s)) ∧
      ((∀ c x, s.context c = some x → x.site ≠ i) →
        exec (.clearSite body) s = .next (answered 0x41 .ok [] { s with sites := s.sites.set i none }))) ∧
    (body.length = 11 → 31 < byteAt body 0 → exec (.loadSite body) s = .next (answered 0x40 .badArgument [] s)) ∧
    (body.length = 1 → 31 < byteAt body 0 → exec (.clearSite body) s = .next (answered 0x41 .badArgument [] s))

/-- OPEN-PRIVACY: an illegal slot, site, segment length or masking byte is refused with BAD-ARGUMENT; then FULL, TIE-BUSY,
NOT-ADMITTED, STANDING, CLASS, SITE and PARTNERS refuse with POLICY, the first that applies; a refusal changes nothing and
draws no nonce. What no check refuses opens the lowest FREE context in OPENING with the profile clamped or defaulted, its
bindings, a drawn nonce of epoch 0 and its TX-KEY posted; nothing else changes. The model's choices: what falls due in a
frame is marked by fields of the model (log entry 1); the open frame stands at offset 0 (log entry 13). -/
def Obligations.OpenPrivacyOpensAContext : Prop :=
  ∀ (body : List Byte) (s : State), Accepts s → body.length = 14 →
    let field (allOnes default low high v : Nat) : Nat := if v = allOnes then default else max low (min v high)
    let segment (n : Nat) : Prop := (byteAt body 3 = 0xFF ∧ n = 16) ∨ (byteAt body 3 = n ∧ (n = 8 ∨ n = 16 ∨ n = 32))
    let masking (b : Bool) : Prop := (b = true ∧ (byteAt body 4 = 0xFF ∨ byteAt body 4 = 1)) ∨
      (b = false ∧ byteAt body 4 = 0)
    let policy (detail : Byte) : Prop := exec (.openPrivacy body) s = .next (answered 0x42 .policy [detail] s)
    (byteAt body 0 = 0 ∨ 127 < byteAt body 0 ∨ byteAt body 1 = 0 ∨ 127 < byteAt body 1 ∨ 31 < byteAt body 2 ∨
        (∀ n, ¬segment n) ∨ (∀ b, ¬masking b) →
      exec (.openPrivacy body) s = .next (answered 0x42 .badArgument [] s)) ∧
    ∀ (tie ext : SlotId) (site : SiteId) (p : Profile), byteAt body 0 = tie.number → byteAt body 1 = ext.number →
      byteAt body 2 = site.val → segment p.segment → masking p.masking →
      p.presync = field 0xFF 2 1 4 (byteAt body 5) → p.flywheel = field 0xFF 4 1 15 (byteAt body 6) →
      p.huntLimit = field 0xFFFFFF 40000 4000 240000 (field24 body 7) →
      p.clearGuard = field 0xFFFF 6400 800 16000 (field16 body 10) →
      p.rekeyInterval = field 0xFFFF 0 0 1440 (field16 body 12) →
      ((∀ d, (s.context d).isSome) → policy 1) ∧
      ∀ c : ContextId, s.context c = none → (∀ d, d < c → (s.context d).isSome) →
        ((s.slot tie).kind ≠ .tie ∨ (s.slot tie).boundContext.isSome → policy 2) ∧
        ((s.slot tie).kind = .tie → (s.slot tie).boundContext = none →
          ((s.slot ext).kind ≠ .extension ∨ (s.slot ext).admission ≠ .admitted ∨ (s.slot ext).visitor = true →
            policy 3) ∧
          ∀ (r : RecordId) (x : Record) (n : ExtensionNumber) (k : ClassId), (s.slot ext).kind = .extension →
            (s.slot ext).admission = .admitted → (s.slot ext).visitor = false → (s.slot ext).boundIndex = some r →
            (s.slot ext).number = some n → (s.slot ext).admissionClass = some k → s.record r = some x →
            (x.standing ≠ .good → policy 4) ∧
            (x.standing = .good → (s.classRecord k).privacy = false ∨ (s.classRecord k).inBand = false → policy 5) ∧
            (x.standing = .good → (s.classRecord k).privacy = true → (s.classRecord k).inBand = true →
              (s.sites[site] = none → policy 6) ∧
              (s.sites[site].isSome → 4 ≤ (s.slot ext).partners.length → policy 7) ∧
              (s.sites[site].isSome → (s.slot ext).partners.length < 4 →
                let nonce : BitVec 24 := s.engine.nonce + 0x5B2C4F + BitVec.ofNat 24 s.clock.reading.frame
                ∃ o, exec (.openPrivacy body) s = .next (answered 0x42 .ok [byte c]
                  (((s.withEngine (Engine.post (.txKey c site nonce 0) { s.engine with nonce := nonce })).withContext c
                    (some o)).withSlot tie { s.slot tie with boundContext := some c } |>.withSlot ext
                      { s.slot ext with partners := (s.slot ext).partners ++ [c] })) ∧
                  o.phase = .opening ∧ o.tie = tie ∧ o.ext = ext ∧ o.index = r ∧ o.number = n ∧ o.site = site ∧
                  o.profile = p ∧ o.openStamp = s.clock.reading ∧ o.elapsed = 0 ∧ o.rekeyElapsed = 0 ∧ o.rekeys = 0 ∧
                  o.syncLosses = 0 ∧ o.reached = false ∧ o.gone = false ∧ o.cause = none ∧ o.offset = 0 ∧
                  o.boundaryDue = false ∧ o.scrambler.state = .keying ∧
                  o.scrambler.collection = [sampleOf (s.highway.received.wordOf tie)] ∧
                  o.scrambler.next = some { nonce := nonce, epoch := 0, words := none, fresh := false } ∧
                  o.descrambler.state = .hunt ∧ o.descrambler.held = none ∧ o.descrambler.pending = none ∧
                  o.descrambler.hunt = some 0)))

/-- LOAD-TONE writes or empties a descriptor, clamped; SET-TONE-FUNCTIONS writes the six entries; PLAY-TONE settles its
request by priority and reports the outcome; STOP-TONE ends the current tone, whose place the pending one takes, or drops
both. A descriptor above 7, a loaded flag above 1, the priority above 3 of a loaded descriptor, a function byte of 8 to 254,
a slot number of 0 or above 127 and a scope above 1 are refused with BAD-ARGUMENT; then a slot that is not EXTENSION with
WRONG-STATE; then an empty descriptor with NOT-FOUND. -/
def Obligations.ToneRequestsAct : Prop :=
  ∀ (body : List Byte) (s : State), Accepts s →
    (∀ d : ToneId, body.length = 12 → byteAt body 0 = d.val →
      (byteAt body 1 = 0 →
        exec (.loadTone body) s = .next (answered 0x50 .ok [] { s with
          tones := { s.tones with descriptors := s.tones.descriptors.set d none } })) ∧
      (byteAt body 1 = 1 → byteAt body 11 ≤ 3 →
        exec (.loadTone body) s = .next (answered 0x50 .ok [] { s with
          tones := { s.tones with descriptors := s.tones.descriptors.set d (some
            { halfPeriod := max (byteAt body 2) 2, magnitude := max 1 (min (byteAt body 3) 127)
              decrement := min (byteAt body 4) 15, step := max (byteAt body 5) 1, periods := max (field16 body 6) 1
              gap := field16 body 8, bursts := byteAt body 10, priority := byteAt body 11 }) } }))) ∧
    (body.length = 12 → 7 < byteAt body 0 ∨ 1 < byteAt body 1 ∨ (byteAt body 1 = 1 ∧ 3 < byteAt body 11) →
      exec (.loadTone body) s = .next (answered 0x50 .badArgument [] s)) ∧
    (body.length = 6 → (∃ k, k < 6 ∧ 7 < byteAt body k ∧ byteAt body k ≠ 0xFF) →
      exec (.setToneFunctions body) s = .next (answered 0x51 .badArgument [] s)) ∧
    (body.length = 2 →
      (byteAt body 0 = 0 ∨ 127 < byteAt body 0 ∨ 7 < byteAt body 1 →
        exec (.playTone body) s = .next (answered 0x52 .badArgument [] s)) ∧
      (byteAt body 0 = 0 ∨ 127 < byteAt body 0 ∨ 1 < byteAt body 1 →
        exec (.stopTone body) s = .next (answered 0x53 .badArgument [] s))) ∧
    (∀ (i : SlotId) (d : ToneId),
      ((s.slot i).kind ≠ .extension →
        exec (.playTone [byte i.number, byte d]) s = .next (answered 0x52 .wrongState [] s)) ∧
      ((s.slot i).kind = .extension → s.tones.descriptors[d] = none →
        exec (.playTone [byte i.number, byte d]) s = .next (answered 0x52 .notFound [] s)) ∧
      (∀ scope : Nat, scope ≤ 1 → (s.slot i).kind ≠ .extension →
        exec (.stopTone [byte i.number, byte scope]) s = .next (answered 0x53 .wrongState [] s))) ∧
    (body.length = 6 → (∀ k, k < 6 → byteAt body k ≤ 7 ∨ byteAt body k = 0xFF) →
      ∃ f, exec (.setToneFunctions body) s = .next (answered 0x51 .ok [] { s with
          tones := { s.tones with functions := f } }) ∧
        f.admission = indexOf 8 (byteAt body 0) ∧ f.refused = indexOf 8 (byteAt body 1) ∧
        f.expiring = indexOf 8 (byteAt body 2) ∧ f.privacyOn = indexOf 8 (byteAt body 3) ∧
        f.privacyLost = indexOf 8 (byteAt body 4) ∧ f.privacyOff = indexOf 8 (byteAt body 5)) ∧
    (∀ (i : SlotId) (d : ToneId) (x : ToneDescriptor), body = [byte i.number, byte d] →
      (s.slot i).kind = .extension → s.tones.descriptors[d] = some x →
      let started : Tone := { descriptor := x, index := d, begun := 1, phase := .burst 0 }
      ((s.slot i).tone = none →
        exec (.playTone body) s = .next (answered 0x52 .ok [0]
          (s.withSlot i { s.slot i with tone := some started }))) ∧
      (∀ t, (s.slot i).tone = some t → t.descriptor.priority < x.priority →
        exec (.playTone body) s = .next (answered 0x52 .ok [0]
          (s.withSlot i { s.slot i with tone := some started }))) ∧
      (∀ t, (s.slot i).tone = some t → x.priority ≤ t.descriptor.priority →
        ((s.slot i).pendingTone = none →
          exec (.playTone body) s = .next (answered 0x52 .ok [1]
            (s.withSlot i { s.slot i with pendingTone := some { index := d, priority := x.priority } }))) ∧
        (∀ p, (s.slot i).pendingTone = some p → p.priority < x.priority →
          exec (.playTone body) s = .next (answered 0x52 .ok [2]
            (s.withSlot i { s.slot i with pendingTone := some { index := d, priority := x.priority } }))) ∧
        (∀ p, (s.slot i).pendingTone = some p → x.priority ≤ p.priority →
          exec (.playTone body) s = .next (answered 0x52 .ok [3] s)))) ∧
    (∀ i : SlotId, (s.slot i).kind = .extension →
      exec (.stopTone [byte i.number, 1]) s = .next (answered 0x53 .ok []
        (s.withSlot i { s.slot i with tone := none, pendingTone := none })) ∧
      ((s.slot i).pendingTone = none →
        exec (.stopTone [byte i.number, 0]) s = .next (answered 0x53 .ok []
          (s.withSlot i { s.slot i with tone := none }))) ∧
      (∀ (p : PendingTone) (x : ToneDescriptor), (s.slot i).tone.isSome → (s.slot i).pendingTone = some p →
        s.tones.descriptors[p.index] = some x →
        exec (.stopTone [byte i.number, 0]) s = .next (answered 0x53 .ok []
          (s.withSlot i { s.slot i with
            tone := some { descriptor := x, index := p.index, begun := 1, phase := .burst 0 }
            pendingTone := none }))) ∧
      (∀ p : PendingTone, (s.slot i).tone.isSome → (s.slot i).pendingTone = some p →
        s.tones.descriptors[p.index] = none →
        exec (.stopTone [byte i.number, 0]) s = .next (answered 0x53 .ok []
          (s.withSlot i { s.slot i with tone := none, pendingTone := none }))) ∧
      ((s.slot i).tone = none → exec (.stopTone [byte i.number, 0]) s = .next (answered 0x53 .ok [] s)))

/-- R172: SET-EVENT-MASK refuses a mask with any of bits 15 to 11 set, and else writes the mask, whose bit k − 1 enables
kind k; the queue stays. A post of a disabled kind changes nothing, and one of an enabled kind joins a queue that is
not full, under the mask as it stands when the post is taken. -/
def Obligations.EventMaskGovernsPosts : Prop :=
  (∀ (body : List Byte) (s : State), Accepts s → body.length = 2 →
    (field16 body 0 < 2048 →
      exec (.setEventMask body) s = .next (answered 0x60 .ok [] { s with
        events := { s.events with mask := BitVec.ofNat 11 (field16 body 0) } })) ∧
    (2048 ≤ field16 body 0 →
      exec (.setEventMask body) s = .next (answered 0x60 .badArgument [] s))) ∧
  (∀ (kind : EventKind) (slot : Option SlotId) (context : Option ContextId) (index : Option RecordId) (detail : Byte)
      (s : State), 1 ≤ kind.code ∧ kind.code ≤ 11 ∧
    (s.events.mask.getLsbD (kind.code - 1) = false → post kind slot context index detail s = s) ∧
    (s.events.mask.getLsbD (kind.code - 1) = true → s.events.queue.length < 32 →
      post kind slot context index detail s = { s with events := { s.events with queue := s.events.queue ++
        [{ kind := kind, stamp := s.clock.reading, slot := slot, context := context, index := index
           detail := detail }] } })) ∧
  EventKind.signedOn.code = 1 ∧ EventKind.txOverflow.code = 11

/-- READ-EVENTS removes the oldest events up to its count and clears the
mark; READ-RECORDS removes the oldest records up to its count and clears the discarded count. A count out of range is refused. -/
def Obligations.QueuesAreReadOldestFirst : Prop :=
  ∀ (body : List Byte) (s : State), Accepts s →
    (∀ n : Nat, body = [byte n] → 1 ≤ n → n ≤ 8 →
      exec (.readEvents body) s = .next (answered 0x61 .ok
        ([byte (min n s.events.queue.length), if s.events.overflow then 1 else 0] ++
          (s.events.queue.take n).flatMap eventBytes)
        { s with events := { s.events with queue := s.events.queue.drop n, overflow := false } })) ∧
    (∀ n : Nat, body = [byte n] → 1 ≤ n → n ≤ 4 →
      exec (.readRecords body) s = .next (answered 0x62 .ok
        ([byte (min n s.records.queue.length)] ++ bytes16 s.records.discarded ++
          (s.records.queue.take n).flatMap callRecordBytes)
        { s with records := { queue := s.records.queue.drop n, discarded := 0 } })) ∧
    (∀ n : Nat, body = [byte n] → n ≤ 255 → n = 0 ∨ 8 < n →
      exec (.readEvents body) s = .next (answered 0x61 .badArgument [] s)) ∧
    (∀ n : Nat, body = [byte n] → n ≤ 255 → n = 0 ∨ 4 < n →
      exec (.readRecords body) s = .next (answered 0x62 .badArgument [] s)) ∧
    (∀ e : Event, (eventBytes e).length = 13) ∧ (∀ r : CallRecord, (callRecordBytes r).length = 30)
end

