-- ==== Sys2Proof/Laws/State.lean ====
section
/-! SUPPORT. One lemma per field per update of the state, and what a table read gives after a table write. -/

namespace Sys2Proof.Machine

/-! ### withSlot -/

@[simp] theorem withSlot_highway (s : State) (i : SlotId) (x : Slot) : (s.withSlot i x).highway = s.highway := rfl
@[simp] theorem withSlot_slots (s : State) (i : SlotId) (x : Slot) : (s.withSlot i x).slots = s.slots.set i x := rfl
@[simp] theorem withSlot_directory (s : State) (i : SlotId) (x : Slot) : (s.withSlot i x).directory = s.directory := rfl
@[simp] theorem withSlot_classes (s : State) (i : SlotId) (x : Slot) : (s.withSlot i x).classes = s.classes := rfl
@[simp] theorem withSlot_visitors (s : State) (i : SlotId) (x : Slot) : (s.withSlot i x).visitors = s.visitors := rfl
@[simp] theorem withSlot_timers (s : State) (i : SlotId) (x : Slot) : (s.withSlot i x).timers = s.timers := rfl
@[simp] theorem withSlot_engine (s : State) (i : SlotId) (x : Slot) : (s.withSlot i x).engine = s.engine := rfl
@[simp] theorem withSlot_sites (s : State) (i : SlotId) (x : Slot) : (s.withSlot i x).sites = s.sites := rfl
@[simp] theorem withSlot_contexts (s : State) (i : SlotId) (x : Slot) : (s.withSlot i x).contexts = s.contexts := rfl
@[simp] theorem withSlot_tones (s : State) (i : SlotId) (x : Slot) : (s.withSlot i x).tones = s.tones := rfl
@[simp] theorem withSlot_clock (s : State) (i : SlotId) (x : Slot) : (s.withSlot i x).clock = s.clock := rfl
@[simp] theorem withSlot_events (s : State) (i : SlotId) (x : Slot) : (s.withSlot i x).events = s.events := rfl
@[simp] theorem withSlot_records (s : State) (i : SlotId) (x : Slot) : (s.withSlot i x).records = s.records := rfl
@[simp] theorem withSlot_port (s : State) (i : SlotId) (x : Slot) : (s.withSlot i x).port = s.port := rfl
@[simp] theorem withSlot_pending (s : State) (i : SlotId) (x : Slot) : (s.withSlot i x).pending = s.pending := rfl

/-! ### withRecord -/

@[simp] theorem withRecord_highway (s : State) (r : RecordId) (x : Option Record) : (s.withRecord r x).highway = s.highway := rfl
@[simp] theorem withRecord_slots (s : State) (r : RecordId) (x : Option Record) : (s.withRecord r x).slots = s.slots := rfl
@[simp] theorem withRecord_directory (s : State) (r : RecordId) (x : Option Record) : (s.withRecord r x).directory = s.directory.set r x := rfl
@[simp] theorem withRecord_classes (s : State) (r : RecordId) (x : Option Record) : (s.withRecord r x).classes = s.classes := rfl
@[simp] theorem withRecord_visitors (s : State) (r : RecordId) (x : Option Record) : (s.withRecord r x).visitors = s.visitors := rfl
@[simp] theorem withRecord_timers (s : State) (r : RecordId) (x : Option Record) : (s.withRecord r x).timers = s.timers := rfl
@[simp] theorem withRecord_engine (s : State) (r : RecordId) (x : Option Record) : (s.withRecord r x).engine = s.engine := rfl
@[simp] theorem withRecord_sites (s : State) (r : RecordId) (x : Option Record) : (s.withRecord r x).sites = s.sites := rfl
@[simp] theorem withRecord_contexts (s : State) (r : RecordId) (x : Option Record) : (s.withRecord r x).contexts = s.contexts := rfl
@[simp] theorem withRecord_tones (s : State) (r : RecordId) (x : Option Record) : (s.withRecord r x).tones = s.tones := rfl
@[simp] theorem withRecord_clock (s : State) (r : RecordId) (x : Option Record) : (s.withRecord r x).clock = s.clock := rfl
@[simp] theorem withRecord_events (s : State) (r : RecordId) (x : Option Record) : (s.withRecord r x).events = s.events := rfl
@[simp] theorem withRecord_records (s : State) (r : RecordId) (x : Option Record) : (s.withRecord r x).records = s.records := rfl
@[simp] theorem withRecord_port (s : State) (r : RecordId) (x : Option Record) : (s.withRecord r x).port = s.port := rfl
@[simp] theorem withRecord_pending (s : State) (r : RecordId) (x : Option Record) : (s.withRecord r x).pending = s.pending := rfl

/-! ### withContext -/

@[simp] theorem withContext_highway (s : State) (c : ContextId) (x : Option Context) : (s.withContext c x).highway = s.highway := rfl
@[simp] theorem withContext_slots (s : State) (c : ContextId) (x : Option Context) : (s.withContext c x).slots = s.slots := rfl
@[simp] theorem withContext_directory (s : State) (c : ContextId) (x : Option Context) : (s.withContext c x).directory = s.directory := rfl
@[simp] theorem withContext_classes (s : State) (c : ContextId) (x : Option Context) : (s.withContext c x).classes = s.classes := rfl
@[simp] theorem withContext_visitors (s : State) (c : ContextId) (x : Option Context) : (s.withContext c x).visitors = s.visitors := rfl
@[simp] theorem withContext_timers (s : State) (c : ContextId) (x : Option Context) : (s.withContext c x).timers = s.timers := rfl
@[simp] theorem withContext_engine (s : State) (c : ContextId) (x : Option Context) : (s.withContext c x).engine = s.engine := rfl
@[simp] theorem withContext_sites (s : State) (c : ContextId) (x : Option Context) : (s.withContext c x).sites = s.sites := rfl
@[simp] theorem withContext_contexts (s : State) (c : ContextId) (x : Option Context) : (s.withContext c x).contexts = s.contexts.set c x := rfl
@[simp] theorem withContext_tones (s : State) (c : ContextId) (x : Option Context) : (s.withContext c x).tones = s.tones := rfl
@[simp] theorem withContext_clock (s : State) (c : ContextId) (x : Option Context) : (s.withContext c x).clock = s.clock := rfl
@[simp] theorem withContext_events (s : State) (c : ContextId) (x : Option Context) : (s.withContext c x).events = s.events := rfl
@[simp] theorem withContext_records (s : State) (c : ContextId) (x : Option Context) : (s.withContext c x).records = s.records := rfl
@[simp] theorem withContext_port (s : State) (c : ContextId) (x : Option Context) : (s.withContext c x).port = s.port := rfl
@[simp] theorem withContext_pending (s : State) (c : ContextId) (x : Option Context) : (s.withContext c x).pending = s.pending := rfl

/-! ### withClass -/

@[simp] theorem withClass_highway (s : State) (k : ClassId) (x : ClassRecord) : (s.withClass k x).highway = s.highway := rfl
@[simp] theorem withClass_slots (s : State) (k : ClassId) (x : ClassRecord) : (s.withClass k x).slots = s.slots := rfl
@[simp] theorem withClass_directory (s : State) (k : ClassId) (x : ClassRecord) : (s.withClass k x).directory = s.directory := rfl
@[simp] theorem withClass_classes (s : State) (k : ClassId) (x : ClassRecord) : (s.withClass k x).classes = s.classes.set k x := rfl
@[simp] theorem withClass_visitors (s : State) (k : ClassId) (x : ClassRecord) : (s.withClass k x).visitors = s.visitors := rfl
@[simp] theorem withClass_timers (s : State) (k : ClassId) (x : ClassRecord) : (s.withClass k x).timers = s.timers := rfl
@[simp] theorem withClass_engine (s : State) (k : ClassId) (x : ClassRecord) : (s.withClass k x).engine = s.engine := rfl
@[simp] theorem withClass_sites (s : State) (k : ClassId) (x : ClassRecord) : (s.withClass k x).sites = s.sites := rfl
@[simp] theorem withClass_contexts (s : State) (k : ClassId) (x : ClassRecord) : (s.withClass k x).contexts = s.contexts := rfl
@[simp] theorem withClass_tones (s : State) (k : ClassId) (x : ClassRecord) : (s.withClass k x).tones = s.tones := rfl
@[simp] theorem withClass_clock (s : State) (k : ClassId) (x : ClassRecord) : (s.withClass k x).clock = s.clock := rfl
@[simp] theorem withClass_events (s : State) (k : ClassId) (x : ClassRecord) : (s.withClass k x).events = s.events := rfl
@[simp] theorem withClass_records (s : State) (k : ClassId) (x : ClassRecord) : (s.withClass k x).records = s.records := rfl
@[simp] theorem withClass_port (s : State) (k : ClassId) (x : ClassRecord) : (s.withClass k x).port = s.port := rfl
@[simp] theorem withClass_pending (s : State) (k : ClassId) (x : ClassRecord) : (s.withClass k x).pending = s.pending := rfl

/-! ### withEngine -/

@[simp] theorem withEngine_highway (s : State) (x : Engine) : (s.withEngine x).highway = s.highway := rfl
@[simp] theorem withEngine_slots (s : State) (x : Engine) : (s.withEngine x).slots = s.slots := rfl
@[simp] theorem withEngine_directory (s : State) (x : Engine) : (s.withEngine x).directory = s.directory := rfl
@[simp] theorem withEngine_classes (s : State) (x : Engine) : (s.withEngine x).classes = s.classes := rfl
@[simp] theorem withEngine_visitors (s : State) (x : Engine) : (s.withEngine x).visitors = s.visitors := rfl
@[simp] theorem withEngine_timers (s : State) (x : Engine) : (s.withEngine x).timers = s.timers := rfl
@[simp] theorem withEngine_engine (s : State) (x : Engine) : (s.withEngine x).engine = x := rfl
@[simp] theorem withEngine_sites (s : State) (x : Engine) : (s.withEngine x).sites = s.sites := rfl
@[simp] theorem withEngine_contexts (s : State) (x : Engine) : (s.withEngine x).contexts = s.contexts := rfl
@[simp] theorem withEngine_tones (s : State) (x : Engine) : (s.withEngine x).tones = s.tones := rfl
@[simp] theorem withEngine_clock (s : State) (x : Engine) : (s.withEngine x).clock = s.clock := rfl
@[simp] theorem withEngine_events (s : State) (x : Engine) : (s.withEngine x).events = s.events := rfl
@[simp] theorem withEngine_records (s : State) (x : Engine) : (s.withEngine x).records = s.records := rfl
@[simp] theorem withEngine_port (s : State) (x : Engine) : (s.withEngine x).port = s.port := rfl
@[simp] theorem withEngine_pending (s : State) (x : Engine) : (s.withEngine x).pending = s.pending := rfl

/-! ### withHighway -/

@[simp] theorem withHighway_highway (s : State) (x : Highway) : (s.withHighway x).highway = x := rfl
@[simp] theorem withHighway_slots (s : State) (x : Highway) : (s.withHighway x).slots = s.slots := rfl
@[simp] theorem withHighway_directory (s : State) (x : Highway) : (s.withHighway x).directory = s.directory := rfl
@[simp] theorem withHighway_classes (s : State) (x : Highway) : (s.withHighway x).classes = s.classes := rfl
@[simp] theorem withHighway_visitors (s : State) (x : Highway) : (s.withHighway x).visitors = s.visitors := rfl
@[simp] theorem withHighway_timers (s : State) (x : Highway) : (s.withHighway x).timers = s.timers := rfl
@[simp] theorem withHighway_engine (s : State) (x : Highway) : (s.withHighway x).engine = s.engine := rfl
@[simp] theorem withHighway_sites (s : State) (x : Highway) : (s.withHighway x).sites = s.sites := rfl
@[simp] theorem withHighway_contexts (s : State) (x : Highway) : (s.withHighway x).contexts = s.contexts := rfl
@[simp] theorem withHighway_tones (s : State) (x : Highway) : (s.withHighway x).tones = s.tones := rfl
@[simp] theorem withHighway_clock (s : State) (x : Highway) : (s.withHighway x).clock = s.clock := rfl
@[simp] theorem withHighway_events (s : State) (x : Highway) : (s.withHighway x).events = s.events := rfl
@[simp] theorem withHighway_records (s : State) (x : Highway) : (s.withHighway x).records = s.records := rfl
@[simp] theorem withHighway_port (s : State) (x : Highway) : (s.withHighway x).port = s.port := rfl
@[simp] theorem withHighway_pending (s : State) (x : Highway) : (s.withHighway x).pending = s.pending := rfl

/-! ### withPort -/

@[simp] theorem withPort_highway (s : State) (x : Port) : (s.withPort x).highway = s.highway := rfl
@[simp] theorem withPort_slots (s : State) (x : Port) : (s.withPort x).slots = s.slots := rfl
@[simp] theorem withPort_directory (s : State) (x : Port) : (s.withPort x).directory = s.directory := rfl
@[simp] theorem withPort_classes (s : State) (x : Port) : (s.withPort x).classes = s.classes := rfl
@[simp] theorem withPort_visitors (s : State) (x : Port) : (s.withPort x).visitors = s.visitors := rfl
@[simp] theorem withPort_timers (s : State) (x : Port) : (s.withPort x).timers = s.timers := rfl
@[simp] theorem withPort_engine (s : State) (x : Port) : (s.withPort x).engine = s.engine := rfl
@[simp] theorem withPort_sites (s : State) (x : Port) : (s.withPort x).sites = s.sites := rfl
@[simp] theorem withPort_contexts (s : State) (x : Port) : (s.withPort x).contexts = s.contexts := rfl
@[simp] theorem withPort_tones (s : State) (x : Port) : (s.withPort x).tones = s.tones := rfl
@[simp] theorem withPort_clock (s : State) (x : Port) : (s.withPort x).clock = s.clock := rfl
@[simp] theorem withPort_events (s : State) (x : Port) : (s.withPort x).events = s.events := rfl
@[simp] theorem withPort_records (s : State) (x : Port) : (s.withPort x).records = s.records := rfl
@[simp] theorem withPort_port (s : State) (x : Port) : (s.withPort x).port = x := rfl
@[simp] theorem withPort_pending (s : State) (x : Port) : (s.withPort x).pending = s.pending := rfl

/-! ### Reads after writes -/

/-- Reading the entry just written. -/
@[simp] theorem slot_withSlot_self (s : State) (i : SlotId) (x : Slot) : (s.withSlot i x).slot i = x := by
  simp [State.slot, State.withSlot]

/-- Reading another entry. -/
theorem slot_withSlot_of_ne (s : State) {i j : SlotId} (h : i ≠ j) (x : Slot) : (s.withSlot i x).slot j = s.slot j := by
  have hv : i.val ≠ j.val := fun e => h (Fin.ext e)
  simp [State.slot, State.withSlot, hv]

/-- Reading any entry. -/
theorem slot_withSlot (s : State) (i j : SlotId) (x : Slot) : (s.withSlot i x).slot j = if i = j then x else s.slot j := by
  by_cases h : i = j
  · subst h; simp
  · simp [h, slot_withSlot_of_ne s h]

/-- Writing an entry twice. -/
@[simp] theorem withSlot_withSlot (s : State) (i : SlotId) (x y : Slot) : (s.withSlot i x).withSlot i y = s.withSlot i y := by
  simp [State.withSlot]

/-- Writing back the entry read changes nothing. -/
@[simp] theorem withSlot_slot (s : State) (i : SlotId) : s.withSlot i (s.slot i) = s := by
  simp [State.slot, State.withSlot]

/-- Reading the entry just written. -/
@[simp] theorem record_withRecord_self (s : State) (i : RecordId) (x : Option Record) : (s.withRecord i x).record i = x := by
  simp [State.record, State.withRecord]

/-- Reading another entry. -/
theorem record_withRecord_of_ne (s : State) {i j : RecordId} (h : i ≠ j) (x : Option Record) : (s.withRecord i x).record j = s.record j := by
  have hv : i.val ≠ j.val := fun e => h (Fin.ext e)
  simp [State.record, State.withRecord, hv]

/-- Reading any entry. -/
theorem record_withRecord (s : State) (i j : RecordId) (x : Option Record) : (s.withRecord i x).record j = if i = j then x else s.record j := by
  by_cases h : i = j
  · subst h; simp
  · simp [h, record_withRecord_of_ne s h]

/-- Writing an entry twice. -/
@[simp] theorem withRecord_withRecord (s : State) (i : RecordId) (x y : Option Record) : (s.withRecord i x).withRecord i y = s.withRecord i y := by
  simp [State.withRecord]

/-- Writing back the entry read changes nothing. -/
@[simp] theorem withRecord_record (s : State) (i : RecordId) : s.withRecord i (s.record i) = s := by
  simp [State.record, State.withRecord]

/-- Reading the entry just written. -/
@[simp] theorem context_withContext_self (s : State) (i : ContextId) (x : Option Context) : (s.withContext i x).context i = x := by
  simp [State.context, State.withContext]

/-- Reading another entry. -/
theorem context_withContext_of_ne (s : State) {i j : ContextId} (h : i ≠ j) (x : Option Context) : (s.withContext i x).context j = s.context j := by
  have hv : i.val ≠ j.val := fun e => h (Fin.ext e)
  simp [State.context, State.withContext, hv]

/-- Reading any entry. -/
theorem context_withContext (s : State) (i j : ContextId) (x : Option Context) : (s.withContext i x).context j = if i = j then x else s.context j := by
  by_cases h : i = j
  · subst h; simp
  · simp [h, context_withContext_of_ne s h]

/-- Writing an entry twice. -/
@[simp] theorem withContext_withContext (s : State) (i : ContextId) (x y : Option Context) : (s.withContext i x).withContext i y = s.withContext i y := by
  simp [State.withContext]

/-- Writing back the entry read changes nothing. -/
@[simp] theorem withContext_context (s : State) (i : ContextId) : s.withContext i (s.context i) = s := by
  simp [State.context, State.withContext]

/-- Reading the entry just written. -/
@[simp] theorem classRecord_withClass_self (s : State) (i : ClassId) (x : ClassRecord) : (s.withClass i x).classRecord i = x := by
  simp [State.classRecord, State.withClass]

/-- Reading another entry. -/
theorem classRecord_withClass_of_ne (s : State) {i j : ClassId} (h : i ≠ j) (x : ClassRecord) : (s.withClass i x).classRecord j = s.classRecord j := by
  have hv : i.val ≠ j.val := fun e => h (Fin.ext e)
  simp [State.classRecord, State.withClass, hv]

/-- Reading any entry. -/
theorem classRecord_withClass (s : State) (i j : ClassId) (x : ClassRecord) : (s.withClass i x).classRecord j = if i = j then x else s.classRecord j := by
  by_cases h : i = j
  · subst h; simp
  · simp [h, classRecord_withClass_of_ne s h]

/-- Writing an entry twice. -/
@[simp] theorem withClass_withClass (s : State) (i : ClassId) (x y : ClassRecord) : (s.withClass i x).withClass i y = s.withClass i y := by
  simp [State.withClass]

/-- Writing back the entry read changes nothing. -/
@[simp] theorem withClass_classRecord (s : State) (i : ClassId) : s.withClass i (s.classRecord i) = s := by
  simp [State.classRecord, State.withClass]

/-! ### Reads of one table after writes of another -/

@[simp] theorem record_withSlot (s : State) (i : SlotId) (x : Slot) (j : RecordId) : (s.withSlot i x).record j = s.record j := rfl
@[simp] theorem context_withSlot (s : State) (i : SlotId) (x : Slot) (j : ContextId) : (s.withSlot i x).context j = s.context j := rfl
@[simp] theorem classRecord_withSlot (s : State) (i : SlotId) (x : Slot) (j : ClassId) : (s.withSlot i x).classRecord j = s.classRecord j := rfl
@[simp] theorem slot_withRecord (s : State) (r : RecordId) (x : Option Record) (j : SlotId) : (s.withRecord r x).slot j = s.slot j := rfl
@[simp] theorem context_withRecord (s : State) (r : RecordId) (x : Option Record) (j : ContextId) : (s.withRecord r x).context j = s.context j := rfl
@[simp] theorem classRecord_withRecord (s : State) (r : RecordId) (x : Option Record) (j : ClassId) : (s.withRecord r x).classRecord j = s.classRecord j := rfl
@[simp] theorem slot_withContext (s : State) (c : ContextId) (x : Option Context) (j : SlotId) : (s.withContext c x).slot j = s.slot j := rfl
@[simp] theorem record_withContext (s : State) (c : ContextId) (x : Option Context) (j : RecordId) : (s.withContext c x).record j = s.record j := rfl
@[simp] theorem classRecord_withContext (s : State) (c : ContextId) (x : Option Context) (j : ClassId) : (s.withContext c x).classRecord j = s.classRecord j := rfl
@[simp] theorem slot_withClass (s : State) (k : ClassId) (x : ClassRecord) (j : SlotId) : (s.withClass k x).slot j = s.slot j := rfl
@[simp] theorem record_withClass (s : State) (k : ClassId) (x : ClassRecord) (j : RecordId) : (s.withClass k x).record j = s.record j := rfl
@[simp] theorem context_withClass (s : State) (k : ClassId) (x : ClassRecord) (j : ContextId) : (s.withClass k x).context j = s.context j := rfl
@[simp] theorem slot_withEngine (s : State) (x : Engine) (j : SlotId) : (s.withEngine x).slot j = s.slot j := rfl
@[simp] theorem record_withEngine (s : State) (x : Engine) (j : RecordId) : (s.withEngine x).record j = s.record j := rfl
@[simp] theorem context_withEngine (s : State) (x : Engine) (j : ContextId) : (s.withEngine x).context j = s.context j := rfl
@[simp] theorem classRecord_withEngine (s : State) (x : Engine) (j : ClassId) : (s.withEngine x).classRecord j = s.classRecord j := rfl
@[simp] theorem slot_withHighway (s : State) (x : Highway) (j : SlotId) : (s.withHighway x).slot j = s.slot j := rfl
@[simp] theorem record_withHighway (s : State) (x : Highway) (j : RecordId) : (s.withHighway x).record j = s.record j := rfl
@[simp] theorem context_withHighway (s : State) (x : Highway) (j : ContextId) : (s.withHighway x).context j = s.context j := rfl
@[simp] theorem classRecord_withHighway (s : State) (x : Highway) (j : ClassId) : (s.withHighway x).classRecord j = s.classRecord j := rfl
@[simp] theorem slot_withPort (s : State) (x : Port) (j : SlotId) : (s.withPort x).slot j = s.slot j := rfl
@[simp] theorem record_withPort (s : State) (x : Port) (j : RecordId) : (s.withPort x).record j = s.record j := rfl
@[simp] theorem context_withPort (s : State) (x : Port) (j : ContextId) : (s.withPort x).context j = s.context j := rfl
@[simp] theorem classRecord_withPort (s : State) (x : Port) (j : ClassId) : (s.withPort x).classRecord j = s.classRecord j := rfl

end Sys2Proof.Machine
end

