-- ==== Sys2Proof/Laws/Tables.lean ====
section
/-! SUPPORT. What the table walks give: entries of a mapped or computed table, the records of a state whose table
was mapped, and induction along `forEach`. -/

namespace Sys2Proof.Machine

/-- An entry of a mapped table. -/
@[simp] theorem mapTable_get {α β : Type} {n : Nat} (f : α → β) (t : Vector α n) (k : Nat) (h : k < n) :
    (mapTable f t)[k] = f t[k] := by
  simp [mapTable]

/-- An entry of a computed table. -/
@[simp] theorem ofTable_get {α : Type} {n : Nat} (f : Fin n → α) (k : Nat) (h : k < n) :
    (ofTable f)[k] = f ⟨k, h⟩ := by
  simp [ofTable]

/-- A slot of a state whose slot table was mapped. -/
@[simp] theorem slot_mapTable (s : State) (f : Slot → Slot) (i : SlotId) :
    State.slot { s with slots := mapTable f s.slots } i = f (s.slot i) := by
  simp [State.slot]

/-- A slot of a state whose slot table was computed. -/
@[simp] theorem slot_ofTable (s : State) (f : SlotId → Slot) (i : SlotId) :
    State.slot { s with slots := ofTable f } i = f i := by
  simp [State.slot]

/-- A context of a state whose context table was mapped. -/
@[simp] theorem context_mapTable (s : State) (f : Option Context → Option Context) (c : ContextId) :
    State.context { s with contexts := mapTable f s.contexts } c = f (s.context c) := by
  simp [State.context]

/-- A context of a state whose context table was computed. -/
@[simp] theorem context_ofTable (s : State) (f : ContextId → Option Context) (c : ContextId) :
    State.context { s with contexts := ofTable f } c = f c := by
  simp [State.context]

/-- A property that every action keeps holds after all of them. -/
theorem forEach_keeps {α : Type} {P : State → Prop} {f : α → State → State} (keeps : ∀ x s, P s → P (f x s))
    (xs : List α) (s : State) (h : P s) : P (forEach xs f s) := by
  induction xs generalizing s with
  | nil => exact h
  | cons x xs ih => exact ih (f x s) (keeps x s h)

/-- What every action leaves alone stands after all of them. -/
theorem forEach_frame {α β : Type} {view : State → β} {f : α → State → State} (same : ∀ x s, view (f x s) = view s)
    (xs : List α) (s : State) : view (forEach xs f s) = view s :=
  forEach_keeps (P := fun t => view t = view s) (fun x t h => (same x t).trans h) xs s rfl

/-- Nothing to do. -/
@[simp] theorem forEach_nil {α : Type} (f : α → State → State) (s : State) : forEach [] f s = s := rfl

/-- The first action, then the others. -/
@[simp] theorem forEach_cons {α : Type} (x : α) (xs : List α) (f : α → State → State) (s : State) :
    forEach (x :: xs) f s = forEach xs f (f x s) := rfl

/-- Two states are equal when their fifteen parts are. -/
theorem State.same {s t : State} (highway : s.highway = t.highway) (slots : s.slots = t.slots)
    (directory : s.directory = t.directory) (classes : s.classes = t.classes) (visitors : s.visitors = t.visitors)
    (timers : s.timers = t.timers) (engine : s.engine = t.engine) (sites : s.sites = t.sites)
    (contexts : s.contexts = t.contexts) (tones : s.tones = t.tones) (clock : s.clock = t.clock)
    (events : s.events = t.events) (records : s.records = t.records) (port : s.port = t.port)
    (pending : s.pending = t.pending) : s = t := by
  cases s; cases t; simp_all

end Sys2Proof.Machine
end

