-- ==== Sys2Proof/Laws/Ops.lean ====
section
/-! SUPPORT. Each shared operation, once: everything it can do, and what it leaves alone. -/

namespace Sys2Proof.Machine

/-- Exactly the events of `t` may differ from those of `s`. -/
theorem post_cases (kind : EventKind) (slot : Option SlotId) (context : Option ContextId) (index : Option RecordId)
    (detail : Byte) (s : State) :
    (s.events.mask.getLsbD (kind.code - 1) = false ∧ post kind slot context index detail s = s) ∨
    (s.events.mask.getLsbD (kind.code - 1) = true ∧ s.events.queue.length < Config.eventQueueSize ∧
      post kind slot context index detail s = { s with events := { s.events with queue := s.events.queue ++
        [⟨kind, s.clock.reading, slot, context, index, detail⟩] } }) ∨
    (s.events.mask.getLsbD (kind.code - 1) = true ∧ Config.eventQueueSize ≤ s.events.queue.length ∧
      post kind slot context index detail s = { s with events := { s.events with overflow := true } }) := by
  unfold post
  cases hm : s.events.mask.getLsbD (kind.code - 1) with
  | false => simp
  | true =>
    by_cases h : s.events.queue.length < Config.eventQueueSize
    · simp [h]
    · simp [h, Nat.le_of_not_lt h]

/-- A post is a change of the events. -/
theorem post_eq (kind : EventKind) (slot : Option SlotId) (context : Option ContextId) (index : Option RecordId)
    (detail : Byte) (s : State) :
    post kind slot context index detail s =
      { s with events := (post kind slot context index detail s).events } := by
  obtain ⟨-, h⟩ | ⟨-, -, h⟩ | ⟨-, -, h⟩ := post_cases kind slot context index detail s <;> rw [h]

/-- A message on a transmit queue: refused by the kind, joined, or overflowed (R48). -/
theorem enqueue_cases (i : SlotId) (m : HandsetMessage) (s : State) :
    ((s.slot i).kind ≠ .extension ∧ enqueue i m s = s) ∨
    ((s.slot i).kind = .extension ∧ (s.slot i).txQueue.length < Config.txQueueSize ∧
      enqueue i m s = onSlot i (fun r => { r with txQueue := r.txQueue ++ [m] }) s) ∨
    ((s.slot i).kind = .extension ∧ Config.txQueueSize ≤ (s.slot i).txQueue.length ∧
      enqueue i m s = post .txOverflow (some i) none none m.type s) := by
  unfold enqueue
  by_cases hk : (s.slot i).kind = .extension
  · by_cases h : (s.slot i).txQueue.length < Config.txQueueSize
    · simp [hk, h]
    · simp [hk, h, Nat.le_of_not_lt h]
  · simp [hk]

/-- A call record joins the queue or is counted as discarded (R174). -/
theorem storeRecord_cases (r : CallRecord) (s : State) :
    (s.records.queue.length < Config.recordQueueSize ∧
      storeRecord r s = { s with records := { s.records with queue := s.records.queue ++ [r] } }) ∨
    (Config.recordQueueSize ≤ s.records.queue.length ∧
      storeRecord r s =
        { s with records := { s.records with discarded := raise Config.count16Max s.records.discarded } }) := by
  unfold storeRecord
  by_cases h : s.records.queue.length < Config.recordQueueSize
  · simp [h]
  · simp [h, Nat.le_of_not_lt h]

/-- A tone function's request changes nothing, or the player of one EXTENSION slot (R164). -/
theorem requestFunction_cases (f : ToneFunction) (i : SlotId) (s : State) :
    requestFunction f i s = s ∨
    ∃ d x, s.tones.functions.entry f = some d ∧ s.tones.descriptors[d] = some x ∧ (s.slot i).kind = .extension ∧
      requestFunction f i s = s.withSlot i ((s.slot i).requestTone d x).2 := by
  unfold requestFunction
  split
  · exact .inl rfl
  · rename_i d hd
    split
    · exact .inl rfl
    · rename_i x hx
      by_cases h : (s.slot i).kind = .extension
      · exact .inr ⟨d, x, hd, hx, h, by simp [h, onSlot]⟩
      · exact .inl (by simp [h])

/-- A tone request settles by priority and touches the player alone (R159). -/
theorem requestTone_cases (r : Slot) (d : ToneId) (x : ToneDescriptor) :
    (∃ t, r.requestTone d x = (.started, { r with tone := some t }) ∧ t = startTone d x) ∨
    r.requestTone d x = (.waiting, { r with pendingTone := some ⟨d, x.priority⟩ }) ∨
    r.requestTone d x = (.replaced, { r with pendingTone := some ⟨d, x.priority⟩ }) ∨
    r.requestTone d x = (.dropped, r) := by
  unfold Slot.requestTone
  split
  · exact .inl ⟨_, rfl, rfl⟩
  · split
    · exact .inl ⟨_, rfl, rfl⟩
    · split
      · exact .inr (.inl rfl)
      · split
        · exact .inr (.inr (.inl rfl))
        · exact .inr (.inr (.inr rfl))

/-- No request that a withdrawal selects stays on the list, and every other stays in its order (R92). -/
theorem withdraw_requests (p : Job → Bool) (e : Engine) :
    (e.withdraw p).requests = e.requests.filter fun q => !p q.job := rfl

/-- A posting joins the end of the list; the request it replaces is gone (R89). -/
theorem post_requests (j : Job) (e : Engine) :
    (e.post j).requests =
      (e.requests.filter fun q => !(Job.sameRequester j) q.job) ++ [⟨j, false, false⟩] := rfl

/-- A slot changed by `f` reads so, and every other slot reads as before. -/
theorem slot_onSlot (i j : SlotId) (f : Slot → Slot) (s : State) :
    (onSlot i f s).slot j = if i = j then f (s.slot i) else s.slot j := slot_withSlot s i j _

/-- A context changed by `f` reads so, and every other context reads as before. -/
theorem context_onContext (c d : ContextId) (f : Context → Context) (s : State) :
    (onContext c f s).context d = if c = d then (s.context c).map f else s.context d := context_withContext s c d _

/-- A directory record changed by `f` reads so, and every other record reads as before. -/
theorem record_onRecord (r q : RecordId) (f : Record → Record) (s : State) :
    (onRecord r f s).record q = if r = q then (s.record r).map f else s.record q := record_withRecord s r q _

/-- A completed request is discarded with the overrun mark, or acts and takes a place (R180). -/
theorem offer_cases (code : Byte) (act : State → Answer) (s : State) :
    (Config.holdingSize ≤ s.port.holding.length ∧
      offer code act s = s.withPort { s.port with assembler := .hunt none, overrun := true }) ∨
    (s.port.holding.length < Config.holdingSize ∧ offer code act s = hold code (act (huntPort s))) := by
  unfold offer huntPort
  by_cases h : Config.holdingSize ≤ s.port.holding.length
  · exact .inl ⟨h, by simp [h]; rfl⟩
  · exact .inr ⟨Nat.lt_of_not_le h, by simp [h]⟩

/-- The first word of an IDLE transmitter after power-on or the reset pin is 0x0000, with nothing left to form (R185). -/
theorem beginUpstream_first (last : Bool) (s : State) (h : s.port.transmitter = .idle) :
    beginUpstream true last s = s.withPort { s.port with word := 0, startDue := false, idleWordDue := false } := by
  simp [beginUpstream, h]

/-- The maintenance idle word is formed after all, or nothing changes (R176). -/
theorem formIdleWord_cases (s : State) :
    formIdleWord s = s ∨
    (s.port.idleWordDue = true ∧ s.port.transmitter = .idle ∧
      formIdleWord s = s.withPort { s.port with word := maintenanceIdle s, idleWordDue := false }) := by
  unfold formIdleWord
  split
  · exact .inr ⟨‹_ ∧ _›.1, ‹_ ∧ _›.2, rfl⟩
  · exact .inl rfl

/-- What a post leaves of the event queue depends on the queue and the clock alone (R171). -/
theorem post_events_congr (kind : EventKind) (slot : Option SlotId) (context : Option ContextId)
    (index : Option RecordId) (detail : Byte) {s t : State} (h : s.events = t.events) (k : s.clock = t.clock) :
    (post kind slot context index detail s).events = (post kind slot context index detail t).events := by
  unfold post
  rw [h, k]
  split
  · exact h
  · split
    · rfl
    · rfl

/-- A stored call record changes the call records alone, and depends on them alone (R174). -/
theorem storeRecord_eq (r : CallRecord) {s t : State} (h : s.records = t.records) :
    storeRecord r s = { s with records := (storeRecord r t).records } := by
  unfold storeRecord
  rw [h]
  split
  · rfl
  · rfl

/-- Steps 1 to 4 of a free touch the two slots, the call records and the events alone, and store the record before
the event is posted (R110). -/
theorem recordFree_eq (c : ContextId) (x : Context) (s : State) :
    recordFree c x s = { s with
      slots := (unbind c x s).slots
      records := (storeRecord (callRecord x s) s).records
      events := (post .contextClosed (some x.tie) (some c) (some x.index) (causeByte x) s).events } := by
  unfold recordFree
  rw [storeRecord_eq _ (s := unbind c x s) (t := s) rfl, post_eq, post_events_congr _ _ _ _ _
    (s := { unbind c x s with records := (storeRecord (callRecord x s) s).records }) (t := s) rfl rfl]
  rfl

end Sys2Proof.Machine
end

