-- ==== Sys2Proof/WellFormed.lean ====
section
/-! DEFINITION. Which commands are well formed: those the spec's rows describe. Slots, contexts and frames are
in range by their types. `exec` runs other commands as their row says (DESIGN CHOICE, log entry 18). -/

namespace Sys2Proof

/-- The type bytes of the messages a handset sends (R43). -/
def knownHandsetTypes : List Byte := [0x11, 0x12, 0x13, 0x14]

/-- The codes that name a request of the part (R179, 11_maintenance_channel section 11.9). -/
def requestCodes : List Byte :=
  [0x01, 0x02, 0x03, 0x04, 0x05, 0x10, 0x11, 0x12, 0x20, 0x21, 0x22, 0x23, 0x24, 0x25, 0x26, 0x30,
   0x40, 0x41, 0x42, 0x43, 0x44, 0x45, 0x50, 0x51, 0x52, 0x53, 0x60, 0x61, 0x62]

/-- A request's length field counts its code and body and is at most 1024 (R17). -/
def bodyFits (body : List Byte) : Bool := decide (body.length + 1 ≤ Config.requestLengthMax)

/-- The command is one that a row of the table describes. -/
def Instr.wellFormed : Instr → Bool
  | .powerOn | .resetPin | .framePulseStop | .exchangeFrame _ => true
  | .linePulseFrame _ _ judgedFirst | .noPulseFrame judgedFirst => decide judgedFirst.Nodup
  | .entryToLocked | .entryToLost | .lossHoldExpiry => true
  | .filteredCodeChange _ | .clearGuardExpiry _ _ | .expiringIdleSignOff _ => true
  | .signOn _ _ _ | .response _ _ | .signOff _ | .statusQuery _ | .garbledMessage _ => true
  | .unknownHandsetMessage _ type => !knownHandsetTypes.contains type
  | .handsetMessageStart _ | .handsetMessageSent _ | .responseTimeout _ | .refusalHoldEnd _ => true
  | .engineSelect | .verifyDelivery | .txKeyDelivery | .rxKeyDelivery | .minuteBoundary => true
  | .blockBoundary _ | .rekeyIntervalExpiry _ | .contextFree _ => true
  | .huntMarkerFound _ | .markerFrame _ | .blockRestore _ | .huntTimeout _ => true
  | .burstEnd _ | .gapEnd _ | .rejectedMessage => true
  | .unknownRequest code body => !requestCodes.contains code && bodyFits body
  | .responseStart | .responseEnd => true
  | .getStatus body | .setTime body | .setTimers body | .reset body | .eraseSecrets body
  | .setSlot body | .readSlot body | .forceSignOff body | .loadEntry body | .deleteEntry body
  | .readDirectory body | .setStanding body | .loadClass body | .loadVisitorRule body
  | .setVisitorMasks body | .setEngineLevels body | .loadSite body | .clearSite body
  | .openPrivacy body | .closePrivacy body | .rekey body | .readContext body | .loadTone body
  | .setToneFunctions body | .playTone body | .stopTone body | .setEventMask body
  | .readEvents body | .readRecords body => bodyFits body

end Sys2Proof
end

