-- ==== Sys2Proof/Tests/Slice0.lean ====
section
/-! SUPPORT. Tests: the ill-formed commands that the checks refuse, the worked cases of the spec, and for every
statement with hypotheses a witness that meets them. Expected values are the spec's, named with each test. -/

set_option linter.unusedSimpArgs false

namespace Sys2Proof.Tests

open Sys2Proof.Machine Sys2Proof.Safety

/-! ### Well-formed commands -/

/-- A context cannot be judged first twice. -/
theorem test_judged_twice_refused : (Instr.noPulseFrame [3, 3]).wellFormed = false := by decide

/-- A message of a type that a handset sends is not an unknown one (R43). -/
theorem test_known_type_refused : (Instr.unknownHandsetMessage 0 0x14).wellFormed = false := by decide

/-- The code of a request is not an unknown one (R179). -/
theorem test_known_code_refused : (Instr.unknownRequest 0x45 []).wellFormed = false := by decide

/-- A body of 1024 bytes makes a length field of 1025 (R17). -/
theorem test_long_body_refused : (Instr.readSlot (List.replicate 1024 0)).wellFormed = false := by decide +kernel

/-- A body of 1023 bytes fits (R17). -/
theorem test_long_body_accepted : (Instr.readSlot (List.replicate 1023 0)).wellFormed = true := by decide +kernel

/-! ### Worked cases of the spec -/

/-- 05_transform_engine, worked case F. -/
theorem test_transform : transform { k0 := 1, k1 := 2, k2 := 3, k3 := 4 } 1 = 0xDF2540EE := by decide +kernel

/-- R85: word 1 of the nonce 0x12AB3C and epoch 5. -/
theorem test_derive_input : deriveInput 0x12AB3C 5 1 = 0x12AB3C51 := by decide

/-- R85: an even low half is raised by 1, and an odd one kept. -/
theorem test_call_words :
    callWords 0x12345678 0x9ABCDEF0 = ⟨0x1234, 0x5679, 0x9ABC⟩ ∧ (callWords 0x00000003 0).km = 3 := by decide

/-- The call key of the worked case of 07_block_scrambling. -/
def blockKey : KeyWords := { kp := 0x2B10, km := 0x0F35, kx := 0x5A5A }

/-- 07_block_scrambling, worked case: W of block 3. -/
theorem test_block_word : blockWord blockKey 3 = 0x02F5 := by decide

/-- 07_block_scrambling, worked case: the order from T of 752. -/
theorem test_segment_order : segmentOrder (orderWord 0x02F5).toNat = [5, 4, 6, 7, 2, 1, 3, 0] := by decide +kernel

/-- 07_block_scrambling, worked case: code 0x93 at offset 69 leaves at offset 21 as 0xE6. -/
theorem test_scrambled_code :
    (scramble 16 true blockKey 3 ((List.replicate 128 (0 : Sample)).set 69 0x93))[21]? = some 0xE6 := by decide +kernel

/-- R130: the ANNOUNCE marker for C = 813 of epoch 2. -/
theorem test_announce_nibbles :
    markerNibbles { kind := .announce, epoch := 2, counter := 813, nonce := 0x3E07A1, countdown := 3 } =
      [0xA, 2, 2, 0, 3, 2, 0xD, 3, 0xE, 0, 7, 0xA, 1, 3, 4, 6] := by decide +kernel

/-- R19: the DATA marker for C = 3 with nonce 0x12AB3C, read back. -/
theorem test_data_marker_read :
    readMarker [0xA, 1, 0, 0, 0, 0, 3, 1, 2, 0xA, 0xB, 3, 0xC, 0xF, 4, 4] =
      some { kind := .data, epoch := 0, counter := 3, nonce := 0x12AB3C, countdown := 0xF } := by decide +kernel

/-- A marker with a wrong check is not valid (R139). -/
theorem test_bad_check_refused :
    readMarker [0xA, 1, 0, 0, 0, 0, 3, 1, 2, 0xA, 0xB, 3, 0xC, 0xF, 4, 5] = none := by decide +kernel

/-- The tone of the worked case of 09_tone_injection. -/
def workedTone : ToneDescriptor where
  halfPeriod := 10
  magnitude := 100
  decrement := 6
  step := 40
  periods := 200
  gap := 0
  bursts := 1
  priority := 0

/-- 09_tone_injection, worked case: samples 2605, 2615 and 3999. -/
theorem test_burst_codes :
    burstCode workedTone 2605 = 0x52 ∧ burstCode workedTone 2615 = 0xD2 ∧ burstCode workedTone 3999 = 0xCC := by
  decide +kernel

/-- R18: a STATUS-QUERY travels as A, 5, 0, 1, 1, 4, E, B. -/
theorem test_status_query_nibbles :
    handsetNibbles { type := 0x14, body := [] } = [0xA, 5, 0, 1, 1, 4, 0xE, 0xB] := by decide +kernel

/-- 03_handset_message_channel: the 13 bytes of handset 4217's SIGN-ON. -/
theorem test_sign_on_bytes :
    handsetBytes { type := 0x11, body := [0xFF, 0x42, 0x17, 0x00, 0x1C, 0x3A, 0x55, 0x80, 0x02] } =
      [0xA5, 0x0A, 0x11, 0xFF, 0x42, 0x17, 0x00, 0x1C, 0x3A, 0x55, 0x80, 0x02, 0x60] := by decide +kernel

/-- R52: fillers only before the digits, and at least one digit. -/
theorem test_extension_numbers :
    wellFormedNumber 0xFF4217 = true ∧ wellFormedNumber 0xFFFFFF = false ∧ wellFormedNumber 0x4217FF = false := by
  decide +kernel

/-- 04_extension_admission: pattern F, F, 7, 5, 0, 0 with mask 0x3C admits 7500 to 7599 alone. -/
theorem test_visitor_pattern :
    matchesPattern 0x3C 0xFF7500 0xFF7599 = true ∧ matchesPattern 0x3C 0xFF7500 0xFF7600 = false := by decide +kernel

/-- R56: a band that crosses midnight. -/
theorem test_band_over_midnight :
    inBandAt 1320 360 1439 = true ∧ inBandAt 1320 360 359 = true ∧ inBandAt 1320 360 360 = false ∧
      inBandAt 0 0 700 = true := by decide

/-- R166: the last frame of day 65535 is followed by the first of day 0. -/
theorem test_clock_wraps :
    Reading.advance { day := 65535, hour := 23, minute := 59, second := 59, frame := 7999 } = Reading.zero := by decide

/-! ### States of the tests -/

/-- The part in its first frame, with a Highway Interface and one command waiting. -/
def line (h : Highway) : State :=
  { State.reset with
    highway := h, clock := { reading := Reading.zero, timebase := .running, minuteDue := false }
    pending := [.rejectedMessage] }

/-- A line side in LOCKED with one frame held. -/
def lockedLine : Highway := { Highway.initial with timing := .locked, store := [idleWords] }

/-- The part with its line side LOCKED. -/
def here : State := line lockedLine

/-- A handset's slot in LOCKED. -/
def handset : Slot := { Slot.initial with kind := .extension, gate := .closed }

/-- An enrolled extension, number 4217. -/
def member : Record where
  number := 0xFF4217
  serial := 1
  secret := { k0 := 1, k1 := 2, k2 := 3, k3 := 4 }
  cls := 0
  faults := 0
  standing := .good
  admittedSlot := none
  lastSignOn := none
  pendingSlot := none

/-- Slot 1 as given, and record 0 as given. -/
def desk (r : Slot) (x : Record) : State := (here.withRecord 0 (some x)).withSlot 0 r

/-- A context on tie slot 2 for extension slot 1. -/
def call : Context where
  phase := .opened
  tie := 1
  ext := 0
  index := 0
  number := 0xFF4217
  site := 0
  profile :=
    { segment := 8, masking := true, presync := 2, flywheel := 4, huntLimit := 40000, clearGuard := 6400
      rekeyInterval := 0 }
  openStamp := Reading.zero
  elapsed := 1
  rekeyElapsed := 0
  rekeys := 0
  syncLosses := 0
  reached := false
  gone := false
  cause := none
  scrambler := Scrambler.opening 0 0
  descrambler := Descrambler.opening
  offset := 0
  boundaryDue := false

/-- The part with context 0 as given. -/
def talking (x : Context) : State := here.withContext 0 (some x)

/-- A call key. -/
def key : CallKey := { nonce := 0x12AB3C, epoch := 0, words := blockKey }

/-- A running call: its scrambler in RUNNING under a current key. -/
def runningCall : Context :=
  { call with scrambler := { call.scrambler with state := .running, current := some key, next := none } }

@[simp] theorem line_slot (h : Highway) (i : SlotId) : (line h).slot i = Slot.initial := by
  simp [line, State.slot, State.reset]
@[simp] theorem line_record (h : Highway) (r : RecordId) : (line h).record r = none := by
  simp [line, State.record, State.reset]
@[simp] theorem line_context (h : Highway) (c : ContextId) : (line h).context c = none := by
  simp [line, State.context, State.reset]
@[simp] theorem line_class (h : Highway) (k : ClassId) : (line h).classRecord k = ClassRecord.initial := by
  simp [line, State.classRecord, State.reset]
@[simp] theorem here_slot (i : SlotId) : here.slot i = Slot.initial := line_slot _ i
@[simp] theorem here_record (r : RecordId) : here.record r = none := line_record _ r
@[simp] theorem here_context (c : ContextId) : here.context c = none := line_context _ c
@[simp] theorem here_class (k : ClassId) : here.classRecord k = ClassRecord.initial := line_class _ k
@[simp] theorem desk_slot (r : Slot) (x : Record) : (desk r x).slot 0 = r := by simp [desk]
@[simp] theorem desk_record (r : Slot) (x : Record) : (desk r x).record 0 = some x := by simp [desk]
@[simp] theorem desk_class (r : Slot) (x : Record) (k : ClassId) : (desk r x).classRecord k = ClassRecord.initial := by
  simp [desk]
@[simp] theorem talking_context (x : Context) : (talking x).context 0 = some x := by simp [talking]
@[simp] theorem talking_slot (x : Context) (i : SlotId) : (talking x).slot i = Slot.initial := by simp [talking]

/-- Record 0 is the only record at the desk. -/
theorem desk_only (r : Slot) (x : Record) (q : RecordId) (y : Record) (h : (desk r x).record q = some y) : q = 0 := by
  by_cases e : q = 0
  · exact e
  · simp [desk, record_withRecord_of_ne _ (Ne.symm e)] at h

theorem line_running (h : Highway) : Running (line h) := nofun
theorem line_accepts (h : Highway) : Accepts (line h) := ⟨nofun, by simp [line, State.reset, Port.initial, Config.holdingSize]⟩
theorem desk_running (r : Slot) (x : Record) : Running (desk r x) := nofun
theorem desk_accepts (r : Slot) (x : Record) : Accepts (desk r x) :=
  ⟨nofun, by simp [desk, here, line, State.reset, Port.initial, Config.holdingSize]⟩
theorem talking_running (x : Context) : Running (talking x) := nofun
theorem talking_accepts (x : Context) : Accepts (talking x) :=
  ⟨nofun, by simp [talking, here, line, State.reset, Port.initial, Config.holdingSize]⟩
theorem desk_arrives (r : Slot) (x : Record) (h : r.takesNibbles = true) : Arrives 0 (desk r x) :=
  ⟨nofun, by simpa using h, rfl⟩

/-! ### Single steps -/

/-- 05_transform_engine, table of draws: the challenge of the first draw at frame-within-second 1025. -/
theorem test_challenge :
    let s := { desk handset member with
      clock := { here.clock with reading := { Reading.zero with frame := 1025 } } }
    (challengeValue (drawNonce s)) = 0x5B305001 ∧ (drawNonce (drawNonce s)).engine.nonce = 0xB660A0 := by
  decide +kernel

/-- R17, R179: the response to a SET-EVENT-MASK with events pending and the line LOCKED. -/
theorem test_response_bytes :
    responseBytes { code := 0x60, status := 0, body := [] } (post .slip none none none 1 here) =
      [0xD2, 0x4B, 0x00, 0x03, 0xE0, 0x00, 0x01, 0x00, 0xE4] := by decide +kernel

/-- R17: the bytes D2 4B 00 01 01 00 02 are a GET-STATUS, which is held for its answer. -/
theorem test_request_bytes :
    (([0xD2, 0x4B, 0x00, 0x01, 0x01, 0x00, 0x02].foldl (fun s b => takeByte b s) here).port.holding.map
      fun h => (h.code, h.status, h.body.length)) = [(0x01, 0x00, 19)] := by decide +kernel

/-- R13: a frame with two pulses at depth 2 drops the oldest frame and delivers the next. -/
theorem test_drop_slip :
    let frame (n : Nat) : SlotWords := Vector.replicate 128 (BitVec.ofNat 16 n)
    let out := { lockedLine with depth := 2, store := [frame 1, frame 2] }.observe [frame 3, frame 4]
    out.1 = some .drop ∧ out.2.depth = 2 ∧ out.2.delivered = frame 2 ∧ out.2.store = [frame 3, frame 4] := by
  decide +kernel

/-- R13: a frame without a pulse at depth 0 delivers the last frame again. -/
theorem test_repeat_slip :
    let frame : SlotWords := Vector.replicate 128 7
    let out := { lockedLine with depth := 0, store := [], delivered := frame }.observe []
    out.1 = some .again ∧ out.2.depth = 0 ∧ out.2.lineWords = frame := by decide +kernel

/-- R30, R111: the codes of the closes for an idle extension and an idle tie slot. -/
theorem test_guard_causes : (guardCause .extension).code = 2 ∧ (guardCause .tie).code = 3 := by decide

/-! ### Witnesses: the machine and its laws -/

theorem witness_StepTakesTheFrontCommand :
    here.pending = .rejectedMessage :: [] ∧ ({ here with pending := [] } : State).pending = [] := ⟨rfl, rfl⟩

theorem witness_CommandsKeepTheQueue : exec .powerOn here = .next (powerOn here) := rfl

theorem witness_StoppedPulseHoldsTheState :
    here.clock.timebase = .running ∧
    ({ here with clock := { here.clock with timebase := .stopped } } : State).clock.timebase = .stopped ∧
    Instr.engineSelect ≠ .powerOn ∧ Instr.engineSelect ≠ .resetPin ∧
    ∀ p, Instr.engineSelect ≠ .exchangeFrame p := ⟨rfl, rfl, nofun, nofun, fun _ => nofun⟩

theorem witness_ClockCountsFrames : LegalReading Reading.zero := by
  simp [LegalReading, Reading.zero]

/-- Slot 1 admitted under record 0 and partner of context 0; slot 2 the tie slot of that context. -/
def connected : State :=
  (((here.withRecord 0 (some { member with admittedSlot := some 0 })).withSlot 0
    { handset with
      admission := .admitted, boundIndex := some 0, number := some 0xFF4217, admissionClass := some 0
      partners := [0] }).withSlot 1 { Slot.initial with kind := .tie, boundContext := some 0 }).withContext 0
    (some call)

theorem connected_slot (i : SlotId) : connected.slot i =
    if i = 0 then { handset with
      admission := .admitted, boundIndex := some 0, number := some 0xFF4217, admissionClass := some 0
      partners := [0] }
    else if i = 1 then { Slot.initial with kind := .tie, boundContext := some 0 } else Slot.initial := by
  by_cases a : i = 0
  · subst a; simp [connected, slot_withSlot]
  · by_cases b : i = 1
    · subst b; simp [connected, slot_withSlot]
    · simp [connected, slot_withSlot, a, b, Ne.symm a, Ne.symm b]

theorem connected_context (c : ContextId) : connected.context c = if c = 0 then some call else none := by
  by_cases a : c = 0
  · subst a; simp [connected]
  · simp [connected, context_withContext, a, Ne.symm a]

theorem connected_record (r : RecordId) :
    connected.record r = if r = 0 then some { member with admittedSlot := some 0 } else none := by
  by_cases a : r = 0
  · subst a; simp [connected]
  · simp [connected, record_withRecord, a, Ne.symm a]

theorem connected_steps : ∃ t, step connected = .next t := ⟨_, rfl⟩

theorem witness_FramePulseAdvancesCounters :
    let s := { talking call with clock := { here.clock with timebase := .stopped } }
    let r (k : Kind) := desk { handset with kind := k } member
    (s.clock.timebase ≠ .running ∧ s.clock.timebase ≠ .awaiting ∧ s.context 0 = some call ∧
      s.port.transmitter = .idle) ∧
    (here.clock.timebase = .running ∧ here.port.assembler = .hunt none ∧ idleWords[0] = idleWord ∧
      here.context 0 = none) ∧
    ({ Port.initial with transmitter := .sending [1, 2] } : Port).transmitter = .sending [1, 2] ∧
    (∀ k, ((r k).slot 0).kind = k ∧ ((r k).slot 0).boundContext = none) ∧
    (connected.slot 1).kind = .tie ∧ (connected.slot 1).boundContext = some 0 := by
  intro s r
  exact ⟨⟨nofun, nofun, talking_context _, rfl⟩, ⟨rfl, rfl, by decide +kernel, here_context _⟩, rfl,
    fun k => ⟨by simp [r], by simp [r, handset, Slot.initial]⟩, by simp [connected_slot], by simp [connected_slot]⟩

/-- R185: a post of the first frame is stored but does not show in the first upstream word. -/
theorem test_first_upstream_word :
    let posted := post .lineState none none none 1 (beginUpstream true true State.reset)
    (formIdleWord posted).port.word = 0 ∧ (formIdleWord posted).events.queue.length = 1 := by decide +kernel

theorem witness_FramePulseAdvancesCounters_awaiting :
    State.reset.clock.timebase = .awaiting ∧ State.reset.port.transmitter = .idle := ⟨rfl, rfl⟩

theorem witness_FramePulseAdvancesCounters_gives :
    let m := noticeMessage .expiring
    let x (p : TonePhase) : Tone := { descriptor := workedTone, index := 0, begun := 1, phase := p }
    let r (a : Transmitter) (p : TonePhase) := { handset with transmitter := a, txQueue := [m], tone := some (x p) }
    (∀ a p, (desk (r a p) member).slot 0 = r a p ∧ (r a p).kind = .extension ∧ (r a p).transmitter = a ∧
      (r a p).txQueue = m :: [] ∧ (r a p).tone = some (x p) ∧ (x p).phase = p) ∧
    handset.tone = none ∧ Slot.initial.kind ≠ .extension :=
  ⟨fun _ _ => ⟨desk_slot _ _, rfl, rfl, rfl, rfl, rfl⟩, rfl, nofun⟩

theorem witness_QueuesStayBounded :
    QueuesBounded connected ∧ MarksBacked connected ∧ ∃ t, step connected = .next t := by
  refine ⟨⟨by decide, by decide, fun i => ?_, by decide, by decide⟩, ⟨nofun, nofun⟩, connected_steps⟩
  rw [connected_slot]; split_ifs <;> simp [handset, Slot.initial]

theorem witness_EngineStaysSound :
    let e : Engine := { Engine.initial with
      phase := .load, operation := some (loadJob (.verify 0 0 0) here)
      requests := [{ job := .verify 0 0 0, inFlight := true, eligible := true }] }
    EngineSound e ∧ ∃ t, step { here with engine := e } = .next t := by
  refine ⟨⟨?_, ?_, ?_, ?_, ?_, ?_⟩, _, rfl⟩ <;> simp [Engine.initial, loadJob]

theorem witness_LineStaysInRange :
    let s := line { Highway.initial with lossHold := some { elapsed := 64000, due := true } }
    (LineInRange here ∧ ∃ t, step here = .next t) ∧ LineInRange s ∧ ∃ t, step s = .next t := by
  refine ⟨⟨⟨?_, ?_, ?_, ?_, ?_, ?_, ?_, ?_, ?_, ?_, ?_⟩, _, rfl⟩, ⟨?_, ?_, ?_, ?_, ?_, ?_, ?_, ?_, ?_, ?_, ?_⟩, _, rfl⟩ <;>
    simp [here, line, lockedLine, Highway.initial, Config.lossWindowDefault, Config.lossHoldDefault]

theorem connected_bindings : BindingsSound connected := by
  refine ⟨fun c x h => ?_, fun i c h => ?_, fun i c h => ?_, fun i => ?_⟩
  · rw [connected_context] at h
    split_ifs at h with hc
    cases h; subst hc; simp [connected_slot, call, handset]
  · rw [connected_slot] at h
    split_ifs at h with h0 h1 <;> simp [handset, Slot.initial] at h
    subst h h1; exact ⟨call, by simp [connected_context], rfl⟩
  · rw [connected_slot] at h
    split_ifs at h with h0 h1 <;> simp [handset, Slot.initial] at h
    subst h h0; exact ⟨call, by simp [connected_context], rfl⟩
  · rw [connected_slot]; split_ifs <;> simp [handset, Slot.initial]

theorem witness_BindingsStaySound : BindingsSound connected ∧ ∃ t, step connected = .next t :=
  ⟨connected_bindings, connected_steps⟩

theorem connected_admission : AdmissionSound connected := by
  refine ⟨fun i h => ?_, fun i h => ?_, fun i h => ?_, fun r x i h p => ?_, fun r q x y i h k p o => ?_,
    fun r i => ⟨fun h => ?_, fun ⟨x, h, k⟩ => ?_⟩, ?_⟩
  · rw [connected_slot] at h ⊢
    split_ifs at h ⊢ <;> simp [Slot.isAdmitted, handset, Slot.initial] at h ⊢
  · rw [connected_slot] at h ⊢
    split_ifs at h ⊢ <;> simp [Slot.isAdmitted, handset, Slot.initial] at h ⊢
  · rw [connected_slot] at h
    split_ifs at h <;> simp [Slot.signingOn, handset, Slot.initial] at h
  · rw [connected_record] at h
    split_ifs at h; cases h; cases p
  · rw [connected_record] at h
    split_ifs at h; cases h; cases p
  · rw [connected_slot] at h
    split_ifs at h with h0 h1 <;> simp [handset, Slot.initial] at h
    subst h h0; exact ⟨_, connected_record 0, rfl⟩
  · rw [connected_record] at h
    split_ifs at h with h0
    cases h; cases k; subst h0; simp [connected_slot]
  · show 0 = _
    refine (List.countP_eq_zero.mpr fun i _ => ?_).symm
    rw [connected_slot]; split_ifs <;> simp [handset, Slot.initial]

theorem witness_AdmissionStaysSound : AdmissionSound connected ∧ ∃ t, step connected = .next t :=
  ⟨connected_admission, connected_steps⟩

theorem connected_trusted : CallsTrusted connected := by
  refine ⟨fun c x h k => ?_, fun c x h k => ?_⟩
  · rw [connected_context] at h
    split_ifs at h
    cases h
    simp [connected_slot, connected_record, call, Slot.isAdmitted, member]
  · rw [connected_context] at h
    split_ifs at h
    cases h; cases k

theorem witness_CallsStayTrusted :
    AdmissionSound connected ∧ BindingsSound connected ∧ CallsTrusted connected ∧ ∃ t, step connected = .next t :=
  ⟨connected_admission, connected_bindings, connected_trusted, connected_steps⟩

theorem witness_StandingsFollowTheCounter : StandingsSound connected ∧ ∃ t, step connected = .next t := by
  refine ⟨fun r x h => ?_, connected_steps⟩
  rw [connected_record] at h
  split_ifs at h
  cases h; simp [member]

/-! ### Witnesses: arithmetic and encodings -/

theorem witness_RestoreUndoesScramble : (List.replicate 64 (0x55 : Sample)).length = 8 * 8 := by simp

theorem witness_MarkersReadBack : legalCountdown .announce 3 = true ∧ legalCountdown .clear 0xF = true := by decide

theorem witness_HandsetMessageAssembles :
    (here.slot 0).assembler = .hunt none ∧ ([] : List Byte).length + 1 ≤ 24 ∧
      (List.replicate 23 (0 : Byte)).length + 1 ≤ 24 := by simp [Slot.initial]

theorem witness_RequestMessageAssembles :
    here.port.assembler = .hunt none ∧ ([] : List Byte).length + 1 ≤ 1024 := ⟨rfl, by decide⟩

theorem witness_HandsetMessageAssembles_acts :
    Arrives 0 (desk handset member) ∧
      ((0x11 : Byte), 9) ∈ [((0x11 : Byte), 9), (0x12, 4), (0x13, 0), (0x14, 0)] ∧ ([] : List Byte).length ≠ 9 ∧
      ((0x21 : Byte) ≠ 0x11 ∧ (0x21 : Byte) ≠ 0x12 ∧ (0x21 : Byte) ≠ 0x13 ∧ (0x21 : Byte) ≠ 0x14) :=
  ⟨desk_arrives _ _ rfl, by decide, by decide, by decide⟩

theorem witness_HandsetMessageAssembles_garbled :
    let d (a : Assembler) : State := desk { handset with assembler := a } member
    (Arrives 0 (d (.length (some 1))) ∧ ((d (.length (some 1))).slot 0).assembler = .length (some 1) ∧
      (nibblesByte 0 0).toNat = 0 ∧ 24 < (nibblesByte 1 9).toNat) ∧
    (Arrives 0 (d (.check [0x13] 0x14 (some 0xE))) ∧
      ((d (.check [0x13] 0x14 (some 0xE))).slot 0).assembler = .check [0x13] 0x14 (some 0xE) ∧
      (0x14 : Byte) + nibblesByte 0xE 0xB ≠ 0) := by
  intro d
  exact ⟨⟨desk_arrives _ _ rfl, by rw [desk_slot], by decide, by decide⟩,
    ⟨desk_arrives _ _ rfl, by rw [desk_slot], by decide⟩⟩

theorem witness_RequestMessageAssembles_acts : Running here ∧ Accepts here ∧ ([0] : List Byte).length ≠ 0 :=
  ⟨line_running _, line_accepts _, by decide⟩

theorem witness_EngineRunsTheTransform :
    let v := loadJob (.verify 0 0 0) here
    let d := loadJob (.txKey 0 0 0x12AB3C 5) here
    v.round = 0 ∧ v.first = none ∧ v.complete = false ∧ v.word2 = none ∧
      d.round = 0 ∧ d.first = none ∧ d.complete = false ∧ d.word2 = some 0x12AB3C52 := by
  simp [loadJob, loadDerive, deriveInput]

theorem witness_BurstCodesFade :
    2 ≤ workedTone.halfPeriod ∧ 1 ≤ workedTone.step ∧ 1 ≤ workedTone.magnitude ∧ workedTone.magnitude ≤ 127 ∧
      3999 < 2 * workedTone.halfPeriod * workedTone.periods := by decide

/-! ### Witnesses: the line side -/

theorem witness_PulsesCountOutsideLocked :
    let s := line Highway.initial
    let u := line { Highway.initial with timing := .unstable, goodCount := 63, missRun := 3 }
    (Running s ∧ s.highway.observed = false ∧ (∀ i, (s.slot i).changeDue = false) ∧ s.highway.timing = .lost) ∧
    (Running u ∧ u.highway.observed = false ∧ (∀ i, (u.slot i).changeDue = false) ∧ u.highway.timing = .unstable) :=
  ⟨⟨line_running _, rfl, by simp [Slot.initial], rfl⟩, line_running _, rfl, by simp [Slot.initial], rfl⟩

theorem witness_StoreDeliversAndSlips :
    let s (depth misses : Nat) : State := line { lockedLine with
      depth := depth, store := List.replicate depth idleWords, missRun := misses }
    (∀ d m, Running (s d m) ∧ (s d m).highway.observed = false ∧ (s d m).highway.timing = .locked ∧
      (s d m).highway.entered = false ∧ (s d m).highway.lossDue = false ∧
      (s d m).highway.store.length = (s d m).highway.depth ∧ ∀ i, ∃ p, ((s d m).slot i).assembler = .hunt p) ∧
    ((s 2 0).highway.depth ≤ 2 ∧ (s 2 0).highway.depth + [idleWords, idleWords].length = 4) ∧
    ((s 0 0).highway.depth + [idleWords].length < 4 ∧ (s 2 0).highway.depth + [idleWords].length < 4) ∧
    (min ((s 1 0).highway.missRun + 1) 16 < (s 1 0).highway.lossWindow ∧ (s 1 0).highway.depth ≠ 0) ∧
    (min ((s 0 2).highway.missRun + 1) 16 < (s 0 2).highway.lossWindow ∧ (s 0 2).highway.depth = 0) ∧
    (s 0 3).highway.lossWindow ≤ min ((s 0 3).highway.missRun + 1) 16 := by
  refine ⟨fun d m => ⟨line_running _, rfl, rfl, rfl, rfl, by simp [line], fun i => ⟨none, by simp [Slot.initial]⟩⟩, ?_⟩
  simp [line, lockedLine, Highway.initial, Config.lossWindowDefault]

theorem witness_StoreDeliversAndSlips_reaches :
    (here.slot 0).changeDue = false ∧ (0 : ContextId) ∈ [(0 : ContextId)] ∧ (1 : ContextId) ∉ [(0 : ContextId)] := by
  simp [Slot.initial]

/-- Slot 1 in VERIFYING with its VERIFY in flight, and with a derive in flight in its place. -/
theorem witness_EntriesToLockedAndLost_engine :
    let s := desk { handset with admission := .verifying } pending
    let v : Request := { job := .verify 0 0 7, inFlight := true, eligible := true }
    let d : Request := { job := .txKey 0 0 1 0, inFlight := true, eligible := true }
    (s.slot 0).signingOn = true ∧ v.inFlight = true ∧ v.job.isVerifyOf 0 = true ∧ d.inFlight = true ∧
      ∀ i, d.job.isVerifyOf i = false :=
  ⟨by simp [Slot.signingOn], rfl, rfl, rfl, fun _ => rfl⟩

theorem witness_EntriesToLockedAndLost :
    let s := line { Highway.initial with timing := .unstable, goodCount := 64, lockDue := true }
    let t := { connected with highway := { lockedLine with missRun := 4, lossDue := true } }
    (Running s ∧ s.highway.lockDue = true) ∧ Running t ∧ t.highway.lossDue = true ∧ AdmissionSound t :=
  ⟨⟨line_running _, rfl⟩, nofun, rfl, connected_admission.1, connected_admission.2, connected_admission.3,
    connected_admission.4, connected_admission.5, connected_admission.6, connected_admission.7⟩

theorem witness_LossHoldExpiryClearsCalls :
    let x : Timer := { elapsed := 16000, due := true }
    let h : Highway := { Highway.initial with lossHold := some x }
    let s := { connected with highway := h }
    (Running s ∧ s.highway.timing = .lost ∧ s.highway.lossHold = some x ∧ x.due = true ∧
      s.highway.lossHoldLimit ≤ x.elapsed) ∧
    ((s.slot 0).isAdmitted = true ∧ (s.slot 0).boundIndex = some 0 ∧
      s.record 0 = some { member with admittedSlot := some 0 } ∧ (∀ i, (s.slot i).boundIndex ≠ some 1)) ∧
    AdmissionSound s ∧ s.events.mask.getLsbD 7 = true ∧
    (∀ c, (line h).context c = none) ∧ ∀ i, ((line h).slot i).isAdmitted = false := by
  intro x h s
  have k (i : SlotId) : s.slot i = connected.slot i := rfl
  have e : s.record 0 = connected.record 0 := rfl
  refine ⟨⟨nofun, rfl, rfl, rfl, Nat.le_refl _⟩, ⟨?_, ?_, ?_, fun i => ?_⟩, ⟨connected_admission.1, connected_admission.2,
    connected_admission.3, connected_admission.4, connected_admission.5, connected_admission.6, connected_admission.7⟩,
    by decide, line_context h, by simp [Slot.initial, Slot.isAdmitted]⟩
  · simp [k, connected_slot, Slot.isAdmitted]
  · simp [k, connected_slot]
  · simp [e, connected_record]
  · rw [k, connected_slot]; split_ifs <;> simp [Slot.initial]

theorem witness_SlotWordsAreGated :
    let s (g : Gate) := desk { handset with gate := g } member
    let bound (x : Context) := (talking x).withSlot 1 { handset with gate := .bound 0 }
    let synced := { runningCall with descrambler := { call.descrambler with
      state := .sync, restored := some [1, 2], offset := some 1 } }
    here.clock.timebase = .running ∧ (∀ g, ((s g).slot 0).gate = g) ∧
      ((bound call).slot 1).gate = .bound 0 ∧ (bound call).context 0 = some call ∧ call.tie = 1 ∧ call.elapsed ≠ 0 ∧
      call.descrambler.synchronised = false ∧ call.scrambler.emission = .idle ∧
      (bound synced).context 0 = some synced ∧ synced.descrambler.synchronised = true ∧
      synced.descrambler.restored = some [1, 2] ∧ synced.descrambler.offset = some 1 ∧
      ((s (.bound 1)).slot 0).gate = .bound 1 ∧ (s (.bound 1)).context 1 = none :=
  ⟨rfl, fun _ => by simp, by simp, talking_context _, rfl, nofun, rfl, rfl, talking_context _, rfl, rfl, rfl, by simp,
    here_context 1⟩

theorem witness_SlotWordsAreGated_gone :
    let bound (x : Context) := (talking x).withSlot 1 { handset with gate := .bound 0 }
    let synced := { call with descrambler := { call.descrambler with state := .sync } }
    (∀ x, ((bound x).slot 1).gate = .bound 0 ∧ (bound x).context 0 = some x) ∧
      { call with tie := 2 }.tie ≠ 1 ∧ { call with elapsed := 0 }.elapsed = 0 ∧
      (synced.descrambler.synchronised = true ∧ synced.descrambler.restored = none ∧ synced.elapsed ≠ 0) :=
  ⟨fun _ => ⟨by simp, talking_context _⟩, by decide, rfl, rfl, rfl, by decide⟩

theorem witness_FilterTimesANewCode :
    let r := { handset with filterLength := 1, candidate := 2 }
    (0 < r.filterLength ∧ (1 : Nibble) ≠ r.filtered ∧ (1 : Nibble) ≠ r.candidate ∧ r.changeDue = false ∧
      1 ≤ 8 ∧ 8 ≤ 8 * r.filterLength) ∧
    { r with filterLength := 0 }.filterLength = 0 ∧
    Running (desk { r with changeDue := true } member) ∧
    ((desk { r with changeDue := true } member).slot 0).changeDue = true := by
  refine ⟨by decide, rfl, desk_running _ _, by simp⟩

/-! ### Witnesses: handset messages and admission -/

theorem witness_HandsetUnitAnswersAndCounts :
    let full := { handset with txQueue := List.replicate 4 (noticeMessage .expiring) }
    Arrives 0 (desk handset member) ∧ ((desk handset member).slot 0).txQueue.length < 4 ∧
      Arrives 0 (desk full member) ∧ 4 ≤ ((desk full member).slot 0).txQueue.length :=
  ⟨desk_arrives _ _ rfl, by simp [handset, Slot.initial], desk_arrives _ _ rfl, by simp⟩

theorem witness_SignOnIsChallenged :
    let s := desk handset member
    Arrives 0 s ∧ (s.slot 0).admission = .locked ∧ wellFormedNumber member.number = true ∧
      s.record 0 = some member ∧ (∀ q y, s.record q = some y → y.number = member.number → q = 0) ∧
      member.standing ≠ .barred ∧ (s.classRecord member.cls).inBand = true ∧ member.pendingSlot = none ∧
      (s.slot 0).txQueue.length < 4 :=
  ⟨desk_arrives _ _ rfl, by simp; rfl, by decide +kernel, by simp, fun q y h _ => desk_only _ _ q y h, nofun,
    by simp [ClassRecord.initial], rfl, by simp [handset, Slot.initial]⟩

/-- The part with a visitor rule for every number. -/
def guests : State :=
  { desk handset member with
    visitors := { here.visitors with rules := here.visitors.rules.set 0 { VisitorRule.initial with inUse := true } } }

theorem guests_only (q : RecordId) (y : Record) (h : guests.record q = some y) : y.number ≠ 0xFF5000 := by
  have e := desk_only handset member q y h
  subst e
  have : guests.record 0 = some member := desk_record handset member
  rw [this] at h; cases h; decide

theorem witness_VisitorIsAdmitted :
    let v := { VisitorRule.initial with inUse := true }
    Arrives 0 guests ∧ (guests.slot 0).admission = .locked ∧ wellFormedNumber 0xFF5000 = true ∧
      (∀ q y, guests.record q = some y → y.number ≠ 0xFF5000) ∧ matchingRule 0xFF5000 guests = some v ∧
      (guests.classRecord v.cls).inBand = true ∧
      (∀ j, j ≠ 0 → (guests.slot j).isAdmitted = true → (guests.slot j).visitor = true →
        (guests.slot j).number ≠ some 0xFF5000) ∧
      guests.visitors.count < 32 ∧ (guests.slot 0).txQueue.length < 4 := by
  have e (j : SlotId) : guests.slot j = (desk handset member).slot j := rfl
  refine ⟨desk_arrives _ _ rfl, by simp [e]; rfl, by decide +kernel, guests_only, by decide +kernel, by decide +kernel,
    fun j h => ?_, by decide, by simp [e, handset, Slot.initial]⟩
  simp [e, desk, slot_withSlot, Ne.symm h, Slot.initial]

theorem witness_SignOnIsRefused :
    let s := desk handset
    let none_else (x : Record) := ∀ q y, (s x).record q = some y → y.number = x.number → q = 0
    (∀ x, Arrives 0 (s x) ∧ ((s x).slot 0).admission = .locked ∧ ((s x).slot 0).txQueue.length < 4 ∧ none_else x ∧
      (s x).record 0 = some x ∧ ((s x).classRecord x.cls).inBand = true) ∧
    wellFormedNumber 0xFFFFFF = false ∧ wellFormedNumber member.number = true ∧
    matchingRule 0xFF5000 (s member) = none ∧
    { member with standing := .barred }.standing = .barred ∧
    member.standing ≠ .barred ∧ { member with pendingSlot := some 4 }.pendingSlot.isSome ∧
    (((s member).withClass 0 { ClassRecord.initial with inBand := false }).classRecord member.cls).inBand = false ∧
    (s member).timers.refusalHold ≠ 0 := by
  refine ⟨fun x => ⟨desk_arrives _ _ rfl, by simp; rfl, by simp [handset, Slot.initial],
    fun q y h _ => desk_only _ _ q y h, by simp, by simp [ClassRecord.initial]⟩, by decide +kernel, by decide +kernel,
    by decide +kernel, rfl, nofun, rfl, ?_, by decide⟩
  show ((State.withClass _ 0 _).classRecord 0).inBand = false
  simp

theorem witness_SignOnIsRefused_visitors :
    let v := { VisitorRule.initial with inUse := true }
    let closed := { guests with classes := guests.classes.set 0 { ClassRecord.initial with inBand := false } }
    let elsewhere := guests.withSlot 1
      { handset with admission := .admitted, visitor := true, number := some 0xFF5000 }
    let full := { guests with visitors := { guests.visitors with count := 32 } }
    (Arrives 0 guests ∧ (guests.slot 0).admission = .locked ∧ (guests.slot 0).txQueue.length < 4 ∧
      wellFormedNumber 0xFF5000 = true ∧ (∀ q y, guests.record q = some y → y.number ≠ 0xFF5000) ∧
      matchingRule 0xFF5000 guests = some v) ∧
    (matchingRule 0xFF5000 closed = some v ∧ (closed.classRecord v.cls).inBand = false) ∧
    ((elsewhere.classRecord v.cls).inBand = true ∧ (elsewhere.slot 1).isAdmitted = true ∧
      (elsewhere.slot 1).visitor = true ∧ (elsewhere.slot 1).number = some 0xFF5000) ∧
    (32 ≤ full.visitors.count ∧ ∀ j, j ≠ 0 → (full.slot j).isAdmitted = true → (full.slot j).visitor = true →
      (full.slot j).number ≠ some 0xFF5000) := by
  intro v closed elsewhere full
  have e (j : SlotId) : guests.slot j = (desk handset member).slot j := rfl
  have f (j : SlotId) : full.slot j = (desk handset member).slot j := rfl
  refine ⟨⟨desk_arrives _ _ rfl, by simp [e]; rfl, by simp [e, handset, Slot.initial], by decide +kernel, guests_only,
    by decide +kernel⟩, ⟨by decide +kernel, by decide +kernel⟩, ⟨by decide +kernel, by simp [elsewhere, Slot.isAdmitted],
    by simp [elsewhere], by simp [elsewhere]⟩, by decide, fun j h => ?_⟩
  simp [f, desk, slot_withSlot, Ne.symm h, Slot.initial]

/-- A record whose sign-on is pending at slot 1. -/
def pending : Record := { member with pendingSlot := some 0 }

theorem witness_ResponseVerifiesAndSignOffAbandons :
    let s := desk { handset with admission := .challenged } pending
    Arrives 0 s ∧ s.record 0 = some pending ∧ pending.pendingSlot = some 0 ∧
      (∀ q y, s.record q = some y → y.pendingSlot = some 0 → q = 0) ∧ (s.slot 0).admission = .challenged ∧
      (s.slot 0).signingOn = true :=
  ⟨desk_arrives _ _ rfl, by simp, rfl, fun q y h _ => desk_only _ _ q y h, by simp, by simp [Slot.signingOn]⟩

theorem witness_SignOffEndsTheAdmission :
    let admitted := { handset with admission := .admitted, boundIndex := some 0, idle := 8000, partners := [0] }
    let s := desk admitted { member with admittedSlot := some 0 }
    let e := { desk { admitted with admission := .expiring } member with
      highway := { lockedLine with observed := true } }
    let c := desk { admitted with number := some 0xFF4217, admissionClass := some 0 } member
    (Arrives 0 s ∧ (s.slot 0).isAdmitted = true) ∧
    (Running e ∧ (e.slot 0).admission = .expiring ∧ e.highway.observed = true ∧ (e.slot 0).changeDue = false ∧
      8000 ≤ (e.slot 0).idle) ∧
    ((s.slot 0).boundIndex = some 0 ∧ s.record 0 = some { member with admittedSlot := some 0 }) ∧
    (Arrives 0 c ∧ (c.slot 0).isAdmitted = true ∧ (c.slot 0).number = some 0xFF4217 ∧
      (c.slot 0).admissionClass = some 0 ∧ (c.slot 0).txQueue.length < 4 ∧ (c.slot 0).number ≠ some 0xFF5000) ∧
    (({ admitted with transmitter := .sending 3 } : Slot).transmitter = .sending 3 ∧
      ∀ k, admitted.transmitter ≠ .sending k) ∧
    (({ admitted with boundIndex := none, visitor := true } : Slot).boundIndex = none ∧
      ({ admitted with boundIndex := none, visitor := true } : Slot).visitor = true ∧
      ({ admitted with partners := [] } : Slot).partners = []) := by
  intro admitted s e c
  have k (i : SlotId) : e.slot i = (desk { admitted with admission := .expiring } member).slot i := rfl
  refine ⟨⟨desk_arrives _ _ rfl, by simp [s, admitted, Slot.isAdmitted]⟩, ⟨nofun, ?_, rfl, ?_, ?_⟩,
    ⟨by simp [s, admitted], by simp [s]⟩, ⟨desk_arrives _ _ rfl, by simp [c, admitted, Slot.isAdmitted], by simp [c],
      by simp [c], by simp [c, admitted, handset, Slot.initial], by simp [c]⟩, ⟨rfl, nofun⟩, rfl, rfl, rfl⟩
  all_goals rw [k]; simp [admitted, handset, Slot.initial]

/-- The partner of an admitted slot in CLOSING, with a scrambler that runs, and with one that is KEYING. -/
theorem witness_SignOffEndsTheAdmission_partners :
    let s (x : Context) := connected.withContext 0 (some x)
    (∀ x, ((s x).slot 0).isAdmitted = true ∧ ((s x).slot 0).partners = [0] ∧ ((s x).slot 0).partners.Nodup ∧
      (s x).context 0 = some x) ∧
    { call with phase := .closing }.phase = .closing ∧
    (runningCall.phase ≠ .closing ∧ runningCall.scrambler.state = .running) ∧
    (call.phase ≠ .closing ∧ call.scrambler.state ≠ .running ∧ call.scrambler.state ≠ .announcing) := by
  refine ⟨fun x => ?_, rfl, ⟨nofun, rfl⟩, nofun, nofun, nofun⟩
  have k (i : SlotId) : (connected.withContext 0 (some x)).slot i = connected.slot i := rfl
  exact ⟨by simp [k, connected_slot, Slot.isAdmitted], by simp [k, connected_slot], by simp [k, connected_slot],
    by simp⟩

/-- A completed VERIFY of slot 1 under record 0, with its output. -/
def verified : Operation := { loadJob (.verify 0 0 7) here with a := 0, b := 7, complete := true }

/-- Slot 1 in VERIFYING with its VERIFY complete. -/
def verifying (x : Record) (answer : BitVec 32) : State :=
  { desk { handset with admission := .verifying } x with
    engine := { Engine.initial with
      phase := .round, operation := some { verified with job := .verify 0 0 answer }
      requests := [{ job := .verify 0 0 answer, inFlight := true, eligible := true }] } }

theorem witness_VerifySuccessAdmits :
    let s := verifying pending 7
    Running s ∧ s.engine.operation = some { verified with job := .verify 0 0 7 } ∧ verified.complete = true ∧
      ({ verified with job := .verify 0 0 7 } : Operation).output = 7 ∧
      (s.slot 0).kind = .extension ∧ (s.slot 0).admission = .verifying ∧ s.record 0 = some pending ∧
      pending.pendingSlot = some 0 ∧ (s.classRecord pending.cls).inBand = true ∧ pending.standing ≠ .barred ∧
      pending.admittedSlot ≠ some 0 ∧ pending.admittedSlot = none := by
  intro s
  have k (i : SlotId) : s.slot i = (desk { handset with admission := .verifying } pending).slot i := rfl
  exact ⟨nofun, rfl, rfl, by decide +kernel, by simp [k, handset], by simp [k],
    desk_record { handset with admission := .verifying } _, rfl, by decide +kernel, nofun, nofun, rfl⟩

theorem witness_VerifySuccessAdmits_heard :
    let s := verifying pending 7
    let named := { s with tones :=
      { descriptors := s.tones.descriptors.set 0 (some workedTone)
        functions := { ToneFunctions.initial with admission := some 0 } } }
    ((s.slot 0).txQueue.length < 4 ∧ s.events.mask.getLsbD 0 = true) ∧
    (named.tones.functions.admission = some 0 ∧ named.tones.descriptors[(0 : ToneId)] = some workedTone ∧
      (named.slot 0).tone = none) := by
  intro s named
  have k : s.slot 0 = { handset with admission := .verifying } := desk_slot _ pending
  have e : named.slot 0 = s.slot 0 := rfl
  exact ⟨⟨by rw [k]; decide, by decide⟩, rfl, by simp [named], by rw [e, k]; rfl⟩

theorem witness_FailedSignOnsCount :
    let timer : Timer := { elapsed := 3200, due := true }
    let c := desk { handset with admission := .challenged, responseTimer := some timer } pending
    let v := verifying pending 8
    (Running c ∧ c.record 0 = some pending ∧ pending.standing ≠ .barred ∧ pending.pendingSlot = some 0 ∧
      (∀ q y, c.record q = some y → y.pendingSlot = some 0 → q = 0) ∧ (c.slot 0).admission = .challenged ∧
      (c.slot 0).responseTimer = some timer ∧ timer.due = true ∧ c.timers.responseTimeout ≤ timer.elapsed) ∧
    (Running v ∧ v.record 0 = some pending ∧ (∀ q y, v.record q = some y → y.pendingSlot = some 0 → q = 0) ∧
      v.engine.operation = some { verified with job := .verify 0 0 8 } ∧ verified.complete = true ∧
      ({ verified with job := .verify 0 0 8 } : Operation).output ≠ 8 ∧ (v.slot 0).admission = .verifying) := by
  intro timer c v
  have k (i : SlotId) : v.slot i = (desk { handset with admission := .verifying } pending).slot i := rfl
  exact ⟨⟨desk_running _ _, by simp [c], nofun, rfl, fun q y h _ => desk_only _ _ q y h, by simp [c], by simp [c], rfl,
      by decide⟩,
    nofun, desk_record { handset with admission := .verifying } _,
    fun q y h _ => desk_only { handset with admission := .verifying } _ q y h, rfl, rfl, by decide +kernel,
    by simp [k]⟩

theorem witness_FailedSignOnsCount_wrong_handset :
    let x : Record := { member with faults := 248, standing := .suspect, pendingSlot := some 1 }
    let s := (desk handset x).withSlot 1 { handset with admission := .challenged }
    (Arrives 0 s ∧ s.record 0 = some x ∧ x.standing ≠ .barred ∧ (s.slot 0).admission = .locked ∧
      wellFormedNumber x.number = true ∧ (∀ q y, s.record q = some y → y.number = x.number → q = 0) ∧
      (2 : BitVec 48) ≠ x.serial) ∧
    (255 < x.faults + 8 ∧ x.pendingSlot = some 1 ∧ (s.slot 1).signingOn = true ∧
      ∀ q y, s.record q = some y → y.pendingSlot = some 1 → q = 0) ∧
    member.faults + 8 ≤ 255 ∧ ({ x with pendingSlot := none } : Record).pendingSlot = none := by
  intro x s
  have k : s.slot 0 = handset := by simp [s, slot_withSlot]
  exact ⟨⟨⟨nofun, by rw [k]; rfl, rfl⟩, desk_record handset x, nofun, by rw [k]; rfl, by decide +kernel,
      fun q y h _ => desk_only handset x q y h, by decide⟩,
    ⟨by decide, rfl, by simp [s, Slot.signingOn], fun q y h _ => desk_only handset x q y h⟩, by decide, rfl⟩

theorem witness_HoldsEndAndMessagesMove :
    let timer : Timer := { elapsed := 16000, due := true }
    let m := noticeMessage .expiring
    let r := { handset with
      admission := .hold, refusalHold := some timer, startDue := true, txQueue := [m] }
    let s := desk r member
    let t := desk { r with transmitter := .sending 10 } member
    (Running s ∧ (s.slot 0).admission = .hold ∧ (s.slot 0).refusalHold = some timer ∧ timer.due = true ∧
      s.timers.refusalHold ≤ timer.elapsed) ∧
    ((s.slot 0).startDue = true ∧ (s.slot 0).transmitter = .idle ∧ (s.slot 0).txQueue = m :: []) ∧
    (Running t ∧ (t.slot 0).transmitter = .sending 10 ∧ (t.slot 0).txQueue = m :: [] ∧
      (handsetNibbles m).length ≤ 10) := by
  intro timer m r s t
  exact ⟨⟨desk_running _ _, by simp [s, r], by simp [s, r], rfl, by decide⟩,
    ⟨by simp [s, r], by simp [s, r, handset, Slot.initial], by simp [s, r]⟩, desk_running _ _, by simp [t], by simp [t, r],
    by decide +kernel⟩

theorem witness_BandsAreRecomputed :
    let s := { here with clock := { here.clock with minuteDue := true } }
    let time : List Byte := [0, 0, 23, 59, 59]
    let band : List Byte := [7, 1, 0, 0, 0, 0]
    (Running s ∧ s.clock.minuteDue = true) ∧
    (Accepts here ∧ time.length = 5 ∧ byteAt time 2 ≤ 23 ∧ byteAt time 3 ≤ 59 ∧ byteAt time 4 ≤ 59) ∧
    23 < byteAt [0, 0, 24, 0, 0] 2 ∧
    (band.length = 6 ∧ byteAt band 0 = (7 : ClassId).val ∧ byteAt band 1 ≤ 1) ∧ 7 < byteAt [8, 0, 0, 0, 0, 0] 0 :=
  ⟨⟨nofun, rfl⟩, ⟨line_accepts _, rfl, by decide, by decide, by decide⟩, by decide, ⟨rfl, by decide, by decide⟩,
    by decide⟩

/-- The bands of a LOAD-CLASS that takes class 0 out of band at 00:00 and of one that brings it back, each with a slot it
moves. -/
theorem witness_BandsAreRecomputed_moves :
    let s (a : Admission) (band : Bool) :=
      (desk { handset with admission := a, admissionClass := some 0, idle := 7999 } member).withClass 0
        { ClassRecord.initial with inBand := band }
    (∀ a b, ((s a b).slot 0).kind = .extension ∧ ((s a b).slot 0).admissionClass = some 0 ∧
      ((s a b).classRecord 0).inBand = b ∧ ((s a b).slot 0).admission = a ∧ ((s a b).slot 0).idle < 8000 ∧
      ((s a b).slot 0).txQueue.length < 4) ∧
    inBandAt (field16 [0, 0, 0, 1, 0, 2] 2) (field16 [0, 0, 0, 1, 0, 2] 4) (minuteOfDay here.clock.reading) = false ∧
    inBandAt (field16 [0, 0, 0, 0, 0, 2] 2) (field16 [0, 0, 0, 0, 0, 2] 4) (minuteOfDay here.clock.reading) = true := by
  intro s
  have k (a : Admission) (b : Bool) (i : SlotId) : (s a b).slot i =
    (desk { handset with admission := a, admissionClass := some 0, idle := 7999 } member).slot i := rfl
  exact ⟨fun a b => ⟨by simp [k, handset], by simp [k], by simp [s], by simp [k], by simp [k],
    by simp [k, handset, Slot.initial]⟩, by decide, by decide⟩

/-! ### Witnesses: the engine -/

theorem witness_EngineSelectsTheLowestLevel :
    let e : Engine := { Engine.initial with requests :=
      [{ job := .verify 0 0 7, inFlight := false, eligible := true },
        { job := .txKey 0 0 1 0, inFlight := false, eligible := true }] }
    Running { here with engine := e } ∧ e.phase = .idle ∧ e.candidates ≠ [] := ⟨nofun, rfl, by decide⟩

theorem witness_KeysAreDelivered :
    let n : NextKey := { nonce := 1, epoch := 0, words := none, fresh := false }
    let p : PendingKey := { nonce := 2, epoch := 0, countdown := none, words := none }
    let x := { call with
      scrambler := { call.scrambler with next := some n }, descrambler := { call.descrambler with pending := some p } }
    let tx := { loadJob (.txKey 0 0 1 0) here with complete := true }
    let rx := { loadJob (.rxKey 0 0 2 0) here with complete := true }
    let s (op : Operation) := { talking x with engine := { Engine.initial with operation := some op } }
    (Running (s tx) ∧ (s tx).engine.operation = some tx ∧ tx.complete = true ∧ (s tx).context 0 = some x ∧
      tx.job = .txKey 0 0 1 0 ∧ x.scrambler.next = some n ∧ x.scrambler.state = .keying) ∧
    (Running (s rx) ∧ (s rx).engine.operation = some rx ∧ rx.complete = true ∧ (s rx).context 0 = some x ∧
      rx.job = .rxKey 0 0 2 0 ∧ x.descrambler.pending = some p ∧ p.words = none ∧ p.countdown = none ∧
      ({ p with countdown := some 3 } : PendingKey).countdown.isSome) :=
  ⟨⟨nofun, rfl, rfl, talking_context _, rfl, rfl, rfl⟩, nofun, rfl, rfl, talking_context _, rfl, rfl, rfl, rfl, rfl⟩

/-! ### Witnesses: contexts -/

theorem witness_RunningBoundaryEmitsData :
    let x := { runningCall with
      boundaryDue := true, rekeyElapsed := 480000, profile := { call.profile with rekeyInterval := 1 } }
    Running (talking x) ∧ (talking x).context 0 = some x ∧ x.scrambler.state = .running ∧
      x.scrambler.current = some key ∧ x.boundaryDue = true ∧ x.scrambler.last = none ∧
      ({ x.scrambler with last := some 65023 } : Scrambler).last = some 65023 ∧
      x.profile.rekeyInterval ≠ 0 ∧ x.profile.rekeyInterval * 480000 ≤ x.rekeyElapsed :=
  ⟨talking_running _, talking_context _, rfl, rfl, rfl, rfl, rfl, by decide, by decide⟩

theorem witness_KeyBoundariesAnnounceAndSwitch :
    let n : NextKey := { nonce := 1, epoch := 1, words := some blockKey, fresh := false }
    let x (state : ScramblerState) (last : Option Word) (countdown : Option Nat) : Context := { runningCall with
      boundaryDue := true
      descrambler := { call.descrambler with state := .sync }
      scrambler := { runningCall.scrambler with
        state := state, next := some n, last := last, countdown := countdown } }
    (∀ a b d, Running (talking (x a b d)) ∧ (talking (x a b d)).context 0 = some (x a b d) ∧
      (x a b d).boundaryDue = true ∧ (x a b d).scrambler.next = some n ∧ n.words = some blockKey ∧ n.fresh = false ∧
      (x a b d).scrambler.state = a ∧ (x a b d).scrambler.last = b ∧ (x a b d).scrambler.countdown = d ∧
      (x a b d).scrambler.current = some key) ∧
    (({ n with words := none } : NextKey).words = none ∧ ({ n with fresh := true } : NextKey).fresh = true) ∧
    ((65531 : Word).toNat < 65532 ∧ 65532 ≤ (65532 : Word).toNat ∧ (65532 : Word) ≠ 0xFFFF) ∧
    ((x .rekeying (some 0xFFFF) none).phase = .opened ∧ (x .keying none none).reached = false ∧
      (x .keying none none).descrambler.state = .sync) :=
  ⟨fun _ _ _ => ⟨talking_running _, talking_context _, rfl, rfl, rfl, rfl, rfl, rfl, rfl, rfl⟩, ⟨rfl, rfl⟩,
    ⟨by decide, by decide, by decide⟩, rfl, rfl, rfl⟩

theorem witness_RekeyStarts :
    Accepts (talking runningCall) ∧ 63 < byteAt [64] 0 ∧ byteAt [0] 0 = (0 : ContextId).val ∧
      (talking runningCall).context 0 = some runningCall ∧ runningCall.scrambler.state = .running ∧
      runningCall.scrambler.current = some key ∧
      (∀ x, (talking call).context 0 = some x → x.scrambler.state ≠ .running) :=
  ⟨talking_accepts _, by decide, rfl, talking_context _, rfl, rfl, fun x h => by
    rw [talking_context] at h; cases h; nofun⟩

theorem witness_SecondClearBlockFrees :
    let x := { runningCall with
      phase := .closing, offset := 63, scrambler := { runningCall.scrambler with state := .clearing, clearCount := 2 } }
    Running (talking x) ∧ (talking x).context 0 = some x ∧ x.phase = .closing ∧ x.scrambler.clearCount = 2 ∧
      x.boundaryDue = false ∧ x.offset + 1 = 8 * x.profile.segment ∧ x.tie ≠ x.ext ∧ x.reached = false :=
  ⟨talking_running _, talking_context _, rfl, rfl, rfl, rfl, by decide, rfl⟩

theorem witness_SecondClearBlockFrees_heard :
    let x := { runningCall with phase := .closing, reached := true, cause := some .management }
    x.reached = true ∧ x.gone = false ∧ x.cause ≠ some .lineLoss ∧ x.cause ≠ some .reset ∧ x.cause ≠ some .erased ∧
      { x with cause := some .lineLoss }.cause = some .lineLoss := by decide

/-- The window of a descrambler that has just taken the sixteen nibbles of block 3's DATA marker. -/
def markerWindow : List (Nibble × Sample) :=
  [(0xA, 0), (1, 0), (0, 0), (0, 0), (0, 0), (0, 0), (3, 0), (1, 0), (2, 0), (0xA, 0), (0xB, 0), (3, 0), (0xC, 0),
    (0xF, 0), (4, 0), (4, 0)]

/-- The window of a descrambler that has just taken the sixteen nibbles of a marker. -/
def windowOf (m : Marker) : List (Nibble × Sample) := (markerNibbles m).map fun n => (n, 0)

/-- Block 3's DATA marker, an ANNOUNCE marker of the same block and epoch, and a CLEAR marker. -/
def dataMarker : Marker := { kind := .data, epoch := 0, counter := 3, nonce := 0x12AB3C, countdown := 0xF }
def announceMarker : Marker := { kind := .announce, epoch := 0, counter := 3, nonce := 0x3E07A1, countdown := 0 }
def clearMarker : Marker := { kind := .clear, epoch := 0, counter := 0xFFFF, nonce := 0x12AB3C, countdown := 0xF }

theorem windows_read :
    readMarker ((windowOf dataMarker).map Prod.fst) = some dataMarker ∧
    readMarker ((windowOf announceMarker).map Prod.fst) = some announceMarker ∧
    readMarker ((windowOf clearMarker).map Prod.fst) = some clearMarker ∧
    windowOf dataMarker = markerWindow := by decide +kernel

/-- The key that the ANNOUNCE marker announces, and the one that the DATA marker names, as pending keys. -/
def announcedKey (words : Option KeyWords) : PendingKey :=
  { nonce := 0x3E07A1, epoch := 1, countdown := some 1, words := words }
def soughtKey (words : Option KeyWords) : PendingKey :=
  { nonce := 0x12AB3C, epoch := 0, countdown := none, words := words }

theorem witness_HuntingTakesADataMarker :
    let x (w : List (Nibble × Sample)) (held : Option CallKey) (pending : Option PendingKey) := { call with
      descrambler := { call.descrambler with window := w, held := held, pending := pending } }
    (∀ w h p, Running (talking (x w h p)) ∧ (talking (x w h p)).context 0 = some (x w h p) ∧
      (x w h p).phase ≠ .closing ∧ (x w h p).descrambler.state = .hunt ∧
      (talking (x w h p)).highway.timing = .locked ∧ (x w h p).descrambler.window = w ∧
      (x w h p).descrambler.held = h ∧ (x w h p).descrambler.pending = p) ∧
    (Highway.initial.timing ≠ .locked ∧ readMarker (([] : List (Nibble × Sample)).map Prod.fst) = none) ∧
    (dataMarker.nonce = key.nonce ∧ dataMarker.epoch = key.epoch ∧
      (announcedKey none).countdown.isSome ∧ (soughtKey none).countdown = none) ∧
    (dataMarker.nonce ≠ { key with nonce := 1 }.nonce ∧ dataMarker.nonce = (soughtKey none).nonce ∧
      dataMarker.epoch = (soughtKey none).epoch ∧ (soughtKey none).words = none ∧
      (soughtKey (some blockKey)).words = some blockKey ∧ dataMarker.nonce ≠ (announcedKey none).nonce) ∧
    (announceMarker.epoch = key.epoch ∧ announceMarker.epoch ≠ { key with epoch := 5 }.epoch) ∧
    (call.profile.presync = 2 ∧ { call.profile with presync := 1 }.presync ≤ 1) :=
  ⟨fun _ _ _ => ⟨talking_running _, talking_context _, nofun, rfl, rfl, rfl, rfl, rfl⟩, ⟨nofun, rfl⟩,
    ⟨rfl, rfl, rfl, rfl⟩, ⟨by decide, rfl, rfl, rfl, rfl, by decide⟩, ⟨rfl, by decide⟩, rfl, Nat.le_refl _⟩

theorem witness_SyncFollowsTheMarkers :
    let x (state : DescramblerState) (w : List (Nibble × Sample)) (p : Option PendingKey) (good miss : Nat)
        (switch : Bool) := { call with
      descrambler := { call.descrambler with
        state := state, window := w, held := some key, pending := p, offset := some 15, expected := some 3
        good := good, miss := miss, markerDue := true, restoreDue := true, switchDue := switch
        accepted := some { key := key, counter := 2 } } }
    (∀ a w p g n b, Running (talking (x a w p g n b)) ∧ (talking (x a w p g n b)).context 0 = some (x a w p g n b) ∧
      (x a w p g n b).descrambler.markerDue = true ∧ (x a w p g n b).descrambler.switchDue = b ∧
      (x a w p g n b).descrambler.expected = some 3 ∧ (x a w p g n b).descrambler.offset = some 15 ∧
      (x a w p g n b).descrambler.state = a ∧ (x a w p g n b).descrambler.window = w ∧
      (x a w p g n b).descrambler.held = some key ∧ (x a w p g n b).descrambler.pending = p ∧
      (x a w p g n b).descrambler.good = g ∧ (x a w p g n b).descrambler.miss = n ∧
      (x a w p g n b).descrambler.restoreDue = true ∧
      (x a w p g n b).descrambler.accepted = some { key := key, counter := 2 }) ∧
    (dataMarker.counter = 3 ∧ dataMarker.epoch = key.epoch ∧ dataMarker.nonce = key.nonce) ∧
    (announceMarker.counter = 3 ∧ announceMarker.epoch = key.epoch ∧
      announceMarker.epoch ≠ { key with epoch := 5 }.epoch) ∧
    (readMarker (([] : List (Nibble × Sample)).map Prod.fst) = none ∧ 2 ≤ call.profile.flywheel ∧
      3 + 1 ≤ call.profile.flywheel ∧ 2 + 1 < call.profile.flywheel ∧ { call.profile with flywheel := 1 }.flywheel ≤ 1) ∧
    (0 + 1 < call.profile.presync ∧ call.profile.presync ≤ 1 + 1) ∧
    (dataMarker.nonce = (soughtKey none).nonce ∧ dataMarker.nonce ≠ { key with nonce := 1 }.nonce ∧
      dataMarker.nonce ≠ (announcedKey none).nonce ∧ (soughtKey none).countdown = none ∧
      (announcedKey none).countdown.isSome ∧ (announcedKey (some blockKey)).words = some blockKey ∧
      (announcedKey none).words = none) :=
  ⟨fun _ _ _ _ _ _ => ⟨talking_running _, talking_context _, rfl, rfl, rfl, rfl, rfl, rfl, rfl, rfl, rfl, rfl, rfl,
      rfl⟩, ⟨rfl, rfl, rfl⟩, ⟨rfl, rfl, by decide⟩, ⟨rfl, by decide, by decide, by decide, Nat.le_refl _⟩,
    ⟨by decide, by decide⟩, rfl, by decide, by decide, rfl, rfl, rfl, rfl⟩

theorem witness_GuardsTimeoutsAndRequestsClose :
    let x := { runningCall with descrambler := { call.descrambler with hunt := some 40000 } }
    let s := { (talking x).withSlot 0 { handset with idle := 6400 } with
      highway := { lockedLine with observed := true } }
    Accepts s ∧ s.context 0 = some x ∧ x.phase ≠ .closing ∧ x.boundaryDue = false ∧ x.scrambler.state = .running ∧
      x.descrambler.hunt = some 40000 ∧ x.profile.huntLimit ≤ 40000 ∧ x.elapsed ≠ 0 ∧ s.highway.observed = true ∧
      (s.slot x.ext).changeDue = false ∧ x.profile.clearGuard ≤ (s.slot x.ext).idle ∧
      (s.slot x.tie).changeDue = false ∧ ((s.slot x.tie).idle = 0 ∧ call.scrambler.state = .keying) ∧
      (readMarker ((windowOf clearMarker).map Prod.fst) = some clearMarker ∧ clearMarker.kind = .clear ∧
        s.highway.timing = .locked ∧ x.descrambler.state = .hunt) := by
  intro x s
  have k (i : SlotId) : s.slot i = ((talking x).withSlot 0 { handset with idle := 6400 }).slot i := rfl
  have e : s.slot x.ext = { handset with idle := 6400 } := (k 0).trans (slot_withSlot_self _ _ _)
  have i : s.slot x.tie = Slot.initial := (k 1).trans (by simp [slot_withSlot])
  rw [e, i]
  exact ⟨⟨nofun, by decide⟩, talking_context _, nofun, rfl, rfl, rfl, by decide, by decide, rfl, rfl, by decide, rfl,
    ⟨rfl, rfl⟩, windows_read.2.2.1, rfl, rfl, rfl⟩

theorem witness_GuardsTimeoutsAndRequestsClose_refusals :
    let x := { call with phase := .closing }
    Accepts (talking x) ∧ ([64] : List Byte).length = 1 ∧ 63 < byteAt [64] 0 ∧ byteAt [63] 0 = (63 : ContextId).val ∧
      here.context 63 = none ∧ byteAt [0] 0 = (0 : ContextId).val ∧
      ((talking x).context 0 = some x ∧ x.phase = .closing) :=
  ⟨talking_accepts _, rfl, by decide, by decide, here_context _, by decide, talking_context _, rfl⟩

/-- A KEYING context whose extension slot and tie slot have both been idle for its clear guard. -/
theorem witness_GuardsTimeoutsAndRequestsClose_keying :
    let s := { ((talking call).withSlot 1 { Slot.initial with idle := 6400 }).withSlot 0 { handset with idle := 6400 }
      with highway := { lockedLine with observed := true } }
    s.context 0 = some call ∧ call.scrambler.state = .keying ∧ call.phase ≠ .closing ∧ call.elapsed ≠ 0 ∧
      s.highway.observed = true ∧ call.profile.clearGuard ≤ (s.slot call.ext).idle ∧
      call.profile.clearGuard ≤ (s.slot call.tie).idle ∧ (s.slot call.ext).changeDue = false ∧
      (s.slot call.tie).changeDue = false := by
  intro s
  have e : s.slot call.ext = { handset with idle := 6400 } := slot_withSlot_self _ _ _
  have i : s.slot call.tie = { Slot.initial with idle := 6400 } :=
    (slot_withSlot _ _ _ _).trans (by simp [call])
  rw [e, i]
  exact ⟨talking_context _, rfl, nofun, by decide, rfl, by decide, by decide, rfl, rfl⟩

/-! ### Witnesses: tones and requests -/

theorem witness_BurstsAndGapsEnd :
    let x (bursts gap begun : Nat) (phase : TonePhase) : Tone :=
      { descriptor := { workedTone with bursts := bursts, gap := gap }, index := 0, begun := begun, phase := phase }
    (∀ y, Running (desk { handset with tone := some y } member) ∧
      ((desk { handset with tone := some y } member).slot 0).tone = some y) ∧
    ((x 1 0 1 (.burst 4000)).phase = .burst 4000 ∧ 2 * workedTone.halfPeriod * workedTone.periods ≤ 4000) ∧
    ((x 1 0 1 (.burst 4000)).descriptor.bursts ≠ 0 ∧ (x 1 0 1 (.burst 4000)).descriptor.bursts ≤ 1) ∧
    ((x 0 5 1 (.burst 4000)).descriptor.bursts = 0 ∧ (x 0 5 1 (.burst 4000)).descriptor.gap ≠ 0) ∧
    ((x 3 0 1 (.burst 4000)).begun < 3 ∧ (x 3 0 1 (.burst 4000)).descriptor.gap = 0) ∧
    ((x 3 5 1 (.gap 5)).phase = .gap 5 ∧ (x 3 5 1 (.gap 5)).descriptor.gap ≤ 5) ∧
    handset.pendingTone = none :=
  ⟨fun _ => ⟨desk_running _ _, by simp⟩, ⟨rfl, by decide⟩, ⟨nofun, by decide⟩, ⟨rfl, nofun⟩, ⟨by decide, rfl⟩,
    ⟨rfl, by decide⟩, rfl⟩

theorem witness_PortMovesMessages :
    let h : Held := { code := 1, status := 0, body := [] }
    let s := here.withPort { Port.initial with holding := [h], startDue := true }
    let t := here.withPort { Port.initial with holding := [h, h], transmitter := .sending [] }
    Running here ∧ here.port.holding.length < 2 ∧ (2 ≤ t.port.holding.length ∧ t.port.transmitter = .sending []) ∧
      (s.port.startDue = true ∧ s.port.transmitter = .idle ∧ s.port.holding = h :: []) ∧ ([] : List Byte).length ≠ 5 ∧
      (here.clock.timebase = .running ∧ here.port.transmitter = .idle ∧ here.port.startDue = false) :=
  ⟨line_running _, by decide, ⟨by decide, rfl⟩, ⟨rfl, rfl, rfl⟩, by decide, rfl, rfl, rfl⟩

theorem witness_StatusAndTimersRequests :
    Accepts (talking call) ∧ (List.replicate 8 (0 : Byte)).length = 8 ∧ (talking call).context 0 = some call ∧
      here.context 0 = none := ⟨talking_accepts _, rfl, talking_context _, here_context 0⟩

theorem witness_SoftResetsClear : Accepts connected ∧ AdmissionSound connected ∧
    connected.record 0 = some { member with admittedSlot := some 0 } ∧ connected.record 1 = none :=
  ⟨⟨nofun, by decide⟩, connected_admission, by simp [connected_record], by simp [connected_record]⟩

theorem witness_SetSlotWritesTheKind :
    let s := desk { handset with admission := .admitted } member
    let t := desk handset member
    Accepts s ∧ (s.slot 0).inUse = true ∧ Accepts t ∧ (t.slot 0).inUse = false ∧ Kind.tie ≠ (t.slot 0).kind ∧
      Kind.extension = (t.slot 0).kind ∧ (t.slot 0).changeDue = false ∧ 255 ≤ 255 := by
  intro s t
  exact ⟨desk_accepts _ _, by simp [s, Slot.inUse, handset, Slot.isAdmitted], desk_accepts _ _,
    by simp [t, Slot.inUse, handset, Slot.isAdmitted, Slot.signingOn, Slot.initial], by simp [t, handset],
    by simp [t, handset], by simp [t, handset, Slot.initial], by decide⟩

theorem witness_ReadSlotAndForceSignOff :
    Accepts here ∧ (here.slot 0).kind ≠ .extension ∧
      (∀ a, Accepts (desk { handset with admission := a } member) ∧
        ((desk { handset with admission := a } member).slot 0).kind = .extension ∧
        ((desk { handset with admission := a } member).slot 0).admission = a) :=
  ⟨line_accepts _, by simp [Slot.initial], fun _ => ⟨desk_accepts _ _, by simp [handset], by simp⟩⟩

theorem witness_SlotRequestsAreRefused :
    Accepts here ∧ (byteAt [0, 1, 8] 0 = 0 ∧ 127 < byteAt [128, 1, 8] 0 ∧ 3 < byteAt [1, 4, 8] 1) ∧
      (byteAt [0] 0 = 0 ∧ 127 < byteAt [128] 0 ∧ 63 < byteAt [64] 0) :=
  ⟨line_accepts _, ⟨rfl, by decide, by decide⟩, rfl, by decide, by decide⟩

/-- The body of a LOAD-ENTRY of number 4217 at record 0. -/
def entryBody : List Byte := [0, 0, 0xFF, 0x42, 0x17, 0, 0, 0, 0, 0, 1, 0, 1, 0, 2, 0, 3, 0, 4, 0]

theorem witness_EntriesAreLoaded :
    let s (x : Record) := desk handset x
    (∀ x, Accepts (s x) ∧ (s x).record 0 = some x ∧
      (∀ i, ((s x).slot i).isAdmitted = true → ((s x).slot i).visitor = true → ((s x).slot i).number ≠ some 0xFF4217) ∧
      (∀ q y, (s x).record q = some y → y.number = 0xFF4217 → q = 0)) ∧
    entryBody.length = 20 ∧ field16 entryBody 0 = (0 : RecordId).val ∧
    field24 entryBody 2 = (0xFF4217 : ExtensionNumber).toNat ∧ byteAt entryBody 19 = (0 : ClassId).val ∧
    wellFormedNumber 0xFF4217 = true ∧ (member.admittedSlot = none ∧ member.pendingSlot = none) ∧
    (member.standing = .good ∧ { member with standing := .suspect }.standing ≠ .good) := by
  refine ⟨fun x => ⟨desk_accepts _ _, by simp, fun i => ?_, fun q y h _ => desk_only _ _ q y h⟩, rfl, by decide,
    by decide, by decide, by decide +kernel, ⟨rfl, rfl⟩, rfl, nofun⟩
  simp only [desk, slot_withSlot]
  split_ifs <;> simp [handset, Slot.initial, Slot.isAdmitted]

theorem witness_EntriesAreLoaded_refusals :
    let s := (desk handset pending).withRecord 1 (some { member with number := 0xFF4218 })
    let n : ExtensionNumber := BitVec.ofNat 24 (field24 entryBody 2)
    (Accepts s ∧ entryBody.length = 20 ∧ wellFormedNumber n = true ∧ byteAt entryBody 19 ≤ 7) ∧
    (511 < field16 [2, 0] 0 ∧ wellFormedNumber 0xFFFFFF = false ∧ 7 < byteAt [8] 0) ∧
    (field16 entryBody 0 = (0 : RecordId).val ∧ s.record 0 = some pending ∧ pending.pendingSlot.isSome) ∧
    (n = 0xFF4217 ∧ pending.number = 0xFF4217 ∧ (0 : RecordId) ≠ 5 ∧ s.record 5 = none ∧
      ∀ i, (s.slot i).isAdmitted = false) := by
  intro s n
  refine ⟨⟨⟨nofun, (desk_accepts handset pending).2⟩, rfl, by decide +kernel, by decide⟩,
    ⟨by decide, by decide +kernel, by decide⟩, ⟨by decide, by simp [s, record_withRecord], rfl⟩, by decide +kernel, rfl,
    by decide, by simp [s, desk, record_withRecord], fun i => ?_⟩
  show ((desk handset pending).slot i).isAdmitted = false
  simp only [desk, slot_withSlot]
  split_ifs <;> simp [handset, Slot.initial, Slot.isAdmitted]

theorem witness_EntriesAreDeleted :
    Accepts (desk handset member) ∧ 511 < field16 [2, 0] 0 ∧ field16 [1, 0xFF] 0 = (511 : RecordId).val ∧
      here.record 511 = none ∧ field16 [0, 0] 0 = (0 : RecordId).val ∧
      ((desk handset member).record 0 = some member ∧ member.admittedSlot = none ∧ member.pendingSlot = none) ∧
      pending.pendingSlot.isSome ∧
      (Accepts connected ∧ AdmissionSound connected ∧ CallsTrusted connected ∧ connected.context 0 = some call ∧
        call.phase ≠ .closing ∧ call.index = 0) :=
  ⟨desk_accepts _ _, by decide, by decide, here_record _, by decide, ⟨desk_record _ _, rfl, rfl⟩, rfl,
    witness_SoftResetsClear.1, connected_admission, connected_trusted, by simp [connected_context], nofun, rfl⟩

theorem witness_DirectoryIsReadAndJudged :
    let s := desk { handset with admission := .verifying } pending
    (Accepts s ∧ field16 [1, 0xFF, 16] 0 ≤ 511 ∧ 1 ≤ byteAt [1, 0xFF, 16] 2 ∧ byteAt [1, 0xFF, 16] 2 ≤ 16) ∧
    (field16 [0, 0, 1] 0 = (0 : RecordId).val ∧ s.record 0 = some pending ∧ byteAt [0, 0, 1] 2 = 1 ∧
      pending.pendingSlot = some 0 ∧ (s.slot 0).signingOn = true ∧
      (∀ q z, s.record q = some z → z.pendingSlot = some 0 → q = 0)) ∧
    (byteAt [0, 0, 0] 2 = 0 ∧ member.standing = .good ∧ { member with standing := .barred }.standing ≠ .good) ∧
    (Accepts connected ∧ connected.record 0 = some { member with admittedSlot := some 0 } ∧
      ({ member with admittedSlot := some 0 } : Record).pendingSlot ≠ some 0 ∧
      (connected.slot 0).isAdmitted = true ∧ (connected.slot 0).boundIndex = some 0) ∧
    (511 < field16 [2, 0, 1] 0 ∧ byteAt [0, 0, 0] 2 = 0 ∧ 16 < byteAt [0, 0, 17] 2 ∧ 1 < byteAt [0, 0, 2] 2 ∧
      here.record 0 = none) := by
  intro s
  exact ⟨⟨desk_accepts _ _, by decide, by decide, by decide⟩,
    ⟨by decide, by simp [s], by decide, rfl, by simp [s, Slot.signingOn], fun q z h _ => desk_only _ _ q z h⟩,
    ⟨by decide, rfl, nofun⟩, ⟨witness_SoftResetsClear.1, by simp [connected_record], nofun,
      by simp [connected_slot, Slot.isAdmitted], by simp [connected_slot]⟩,
    by decide, by decide, by decide, by decide, here_record 0⟩

theorem witness_VisitorRulesAreLoaded :
    let body : List Byte := [7, 1, 0xFF, 0x75, 0x00, 1, 5]
    Accepts here ∧ body.length = 7 ∧ byteAt body 0 = (7 : Fin 8).val ∧ byteAt body 1 ≤ 1 ∧
      (∀ d ∈ positions (BitVec.ofNat 24 (field24 body 2)), d ≤ 9 ∨ d = 0xF) ∧ byteAt body 5 ≤ 1 ∧
      byteAt body 6 = (5 : ClassId).val ∧
      (∃ d ∈ positions (BitVec.ofNat 24 (field24 [0, 1, 0xFA, 0, 0, 0, 0] 2)), (0xA : Nibble) ≤ d ∧ d ≤ 0xE) ∧
      (byteAt [0x3F, 0] 0 ≤ 0x3F ∧ byteAt [0x3F, 0] 1 ≤ 0x3F) ∧ 0x3F < byteAt [0x40, 0] 0 :=
  ⟨line_accepts _, rfl, by decide, by decide, by decide +kernel, by decide, by decide, by decide +kernel, by decide,
    by decide⟩

theorem witness_LevelsAndSitesAreLoaded :
    let levels : List Byte := [3, 0, 3]
    let site : List Byte := [31, 0x12, 0x34, 0, 1, 0, 2, 0, 3, 0, 4]
    let taken := { here with sites := here.sites.set 5 (some { identifier := 0x1234, key := noKey }) }
    (Accepts here ∧ levels.length = 3 ∧ byteAt levels 0 ≤ 3 ∧ byteAt levels 1 ≤ 3 ∧ byteAt levels 2 ≤ 3 ∧
      3 < byteAt [0, 4, 0] 1) ∧
    (site.length = 11 ∧ byteAt site 0 = (31 : SiteId).val ∧ (∀ c x, here.context c = some x → x.site ≠ 31) ∧
      (∃ (j : SiteId) (y : Site), j ≠ 31 ∧ taken.sites[j] = some y ∧ y.identifier = BitVec.ofNat 16 (field16 site 1))) ∧
    (∃ c x, (talking call).context c = some x ∧ x.site = 0) ∧ byteAt [0] 0 = (0 : SiteId).val ∧ 31 < byteAt [32] 0 :=
  ⟨⟨line_accepts _, rfl, by decide, by decide, by decide, by decide⟩,
    ⟨rfl, by decide, fun c x h => by simp at h, 5, { identifier := 0x1234, key := noKey }, by decide, by simp,
      by decide⟩,
    ⟨0, call, talking_context _, rfl⟩, rfl, by decide⟩

/-- Slot 1 admitted under a class with privacy, slot 2 a free tie slot, and site 0 VALID. -/
def ready : State :=
  { (((here.withRecord 0 (some { member with admittedSlot := some 0 })).withClass 0
      { ClassRecord.initial with privacy := true }).withSlot 0
    { handset with
      admission := .admitted, boundIndex := some 0, number := some 0xFF4217, admissionClass := some 0 }).withSlot 1
        { Slot.initial with kind := .tie } with
    sites := here.sites.set 0 (some { identifier := 0x1234, key := noKey }) }

theorem witness_OpenPrivacyOpensAContext :
    let body : List Byte := [2, 1, 0, 0xFF, 0xFF, 0xFF, 0xFF, 0xFF, 0xFF, 0xFF, 0xFF, 0xFF, 0xFF, 0xFF]
    let p : Profile :=
      { segment := 16, masking := true, presync := 2, flywheel := 4, huntLimit := 40000, clearGuard := 6400
        rekeyInterval := 0 }
    Accepts ready ∧ body.length = 14 ∧ byteAt body 0 = SlotId.number 1 ∧ byteAt body 1 = SlotId.number 0 ∧
      byteAt body 2 = (0 : SiteId).val ∧ byteAt body 3 = 0xFF ∧ p.segment = 16 ∧ p.masking = true ∧
      byteAt body 4 = 0xFF ∧ (p.presync = 2 ∧ byteAt body 5 = 0xFF ∧ field24 body 7 = 0xFFFFFF) ∧ ready.context 0 = none ∧
      (∀ d : ContextId, d < 0 → (ready.context d).isSome) ∧
      (ready.slot 1).kind = .tie ∧ (ready.slot 1).boundContext = none ∧
      (ready.slot 0).kind = .extension ∧ (ready.slot 0).admission = .admitted ∧ (ready.slot 0).visitor = false ∧
      (ready.slot 0).boundIndex = some 0 ∧ (ready.slot 0).number = some 0xFF4217 ∧
      (ready.slot 0).admissionClass = some 0 ∧ ready.record 0 = some { member with admittedSlot := some 0 } ∧
      member.standing = .good ∧ (ready.classRecord 0).privacy = true ∧ (ready.classRecord 0).inBand = true ∧
      ready.sites[(0 : SiteId)] = some { identifier := 0x1234, key := noKey } ∧
      (ready.slot 0).partners.length < 4 :=
  ⟨⟨nofun, by decide⟩, rfl, by decide, by decide, by decide, by decide, rfl, rfl, by decide,
    ⟨rfl, by decide, by decide⟩, here_context 0, fun d h => absurd h (by simp),
    by decide +kernel, by decide +kernel, by decide +kernel, by decide +kernel, by decide +kernel, by decide +kernel,
    by decide +kernel, by decide +kernel, by decide +kernel, rfl, by decide +kernel, by decide +kernel,
    by decide +kernel, by decide +kernel⟩

/-- What each refusal of an OPEN-PRIVACY finds in the part as it stands ready, altered at one place. -/
theorem witness_OpenPrivacyOpensAContext_refusals :
    let slot := { handset with
      admission := .admitted, boundIndex := some 0, number := some 0xFF4217, admissionClass := some 0 }
    (∀ i : SlotId, (i.val + 1 ≠ 0 ∧ i.val + 1 ≤ 127)) ∧ byteAt [0] 0 = 0 ∧ 127 < byteAt [128] 0 ∧
    (∀ n, ¬((byteAt [0, 0, 0, 24] 3 = 0xFF ∧ n = 16) ∨
      (byteAt [0, 0, 0, 24] 3 = n ∧ (n = 8 ∨ n = 16 ∨ n = 32)))) ∧
    (∀ d, (({ ready with contexts := Vector.replicate 64 (some call) } : State).context d).isSome) ∧
    ((connected.slot 1).boundContext.isSome ∧ ((ready.withSlot 1 Slot.initial).slot 1).kind ≠ .tie) ∧
    (((ready.withSlot 0 { slot with admission := .expiring }).slot 0).admission ≠ .admitted ∧
      ((ready.withSlot 0 { slot with visitor := true }).slot 0).visitor = true) ∧
    ({ member with standing := .suspect }.standing ≠ .good ∧
      ((ready.withClass 0 ClassRecord.initial).classRecord 0).privacy = false) ∧
    here.sites[(0 : SiteId)] = none ∧ (4 ≤ { slot with partners := [0, 1, 2, 3] }.partners.length) := by
  intro slot
  refine ⟨fun i => ⟨by omega, by omega⟩, rfl, by decide, fun n => ?_, fun d => ?_, ⟨by simp [connected_slot], by simp [Slot.initial]⟩,
    ⟨by simp, by simp⟩, ⟨nofun, by simp [ClassRecord.initial]⟩, by decide +kernel, by decide⟩
  · have e : byteAt [0, 0, 0, 24] 3 = 24 := rfl
    rw [e]; omega
  · simp [State.context]

/-- The part with a tone current, and perhaps one pending, at slot 1, and descriptor 0 loaded. -/
def playing (priority : Nat) (p : Option PendingTone) : State :=
  { desk { handset with
      tone := some { descriptor := { workedTone with priority := priority }, index := 0, begun := 1, phase := .burst 0 }
      pendingTone := p } member with
    tones := { here.tones with descriptors := here.tones.descriptors.set 0 (some { workedTone with priority := 2 }) } }

theorem witness_ToneRequestsAct :
    (∀ n p, Accepts (playing n p) ∧ ((playing n p).slot 0).kind = .extension ∧
      (playing n p).tones.descriptors[(0 : ToneId)] = some { workedTone with priority := 2 } ∧
      ((playing n p).slot 0).tone.isSome ∧ ((playing n p).slot 0).pendingTone = p) ∧
    ((List.replicate 12 (0 : Byte)).length = 12 ∧ byteAt (List.replicate 12 0) 1 = 0) ∧
    (byteAt [7, 1, 0, 0, 0, 0, 0, 0, 0, 0, 0, 3] 0 = (7 : ToneId).val ∧
      byteAt [7, 1, 0, 0, 0, 0, 0, 0, 0, 0, 0, 3] 1 = 1 ∧ byteAt [7, 1, 0, 0, 0, 0, 0, 0, 0, 0, 0, 3] 11 ≤ 3) ∧
    (∀ k, k < 6 → byteAt [7, 0xFF, 0, 1, 2, 3] k ≤ 7 ∨ byteAt [7, 0xFF, 0, 1, 2, 3] k = 0xFF) ∧
    handset.tone = none ∧ 1 < 2 ∧ 2 ≤ 2 := by
  refine ⟨fun n p => ?_, ⟨rfl, rfl⟩, ⟨by decide, by decide, by decide⟩, by decide, rfl, by decide, by decide⟩
  have k (i : SlotId) : (playing n p).slot i = (desk _ member).slot i := rfl
  exact ⟨⟨nofun, (desk_accepts handset member).2⟩, by simp [k, handset], by simp [playing], by simp [k], by simp [k]⟩

theorem witness_ToneRequestsAct_refusals :
    let tone (d flag priority : Byte) : List Byte := [d, flag, 0, 0, 0, 0, 0, 0, 0, 0, 0, priority]
    ((tone 8 0 0).length = 12 ∧ 7 < byteAt (tone 8 0 0) 0 ∧ 1 < byteAt (tone 7 2 0) 1 ∧ byteAt (tone 7 1 4) 1 = 1 ∧
      3 < byteAt (tone 7 1 4) 11) ∧
    (∃ k, k < 6 ∧ 7 < byteAt [0, 0, 0, 0, 0, 8] k ∧ byteAt [0, 0, 0, 0, 0, 8] k ≠ 0xFF) ∧
    (byteAt [0, 0] 0 = 0 ∧ 127 < byteAt [128, 0] 0 ∧ 7 < byteAt [1, 8] 1 ∧ 1 < byteAt [1, 2] 1) ∧
    (Accepts here ∧ (here.slot 0).kind ≠ .extension ∧ here.tones.descriptors[(0 : ToneId)] = none) ∧
    (((playing 1 (some { index := 1, priority := 1 })).slot 0).tone.isSome ∧
      ((playing 1 (some { index := 1, priority := 1 })).slot 0).pendingTone = some { index := 1, priority := 1 } ∧
      (playing 1 (some { index := 1, priority := 1 })).tones.descriptors[(1 : ToneId)] = none) := by
  intro tone
  have k (p : Option PendingTone) (i : SlotId) : (playing 1 p).slot i = (desk _ member).slot i := rfl
  exact ⟨⟨rfl, by decide, by decide, rfl, by decide⟩, ⟨5, by decide, by decide, by decide⟩,
    ⟨rfl, by decide, by decide, by decide⟩, ⟨line_accepts _, by simp [Slot.initial], by decide +kernel⟩, by simp [k],
    by simp [k], by decide +kernel⟩

theorem witness_EventMaskGovernsPosts :
    Accepts here ∧ field16 [7, 0xFF] 0 < 2048 ∧ 2048 ≤ field16 [8, 0] 0 ∧
      here.events.mask.getLsbD (EventKind.slip.code - 1) = true ∧ here.events.queue.length < 32 ∧
      ({ here.events with mask := 0 } : Events).mask.getLsbD (EventKind.slip.code - 1) = false :=
  ⟨line_accepts _, by decide, by decide, by decide, by decide, by decide⟩

theorem witness_QueuesAreReadOldestFirst : Accepts here ∧ ([byte 8] : List Byte) = [byte 8] ∧ 1 ≤ 8 ∧ 8 ≤ 8 :=
  ⟨line_accepts _, rfl, by decide, by decide⟩

end Sys2Proof.Tests
end

section
/-! SUPPORT. How a request that is accepted now acts: its answer takes a place in the holding buffer over the state that
its action leaves (R178 to R180), and how the fields of a body name an element of a table. -/

namespace Sys2Proof.Machine

open Sys2Proof.Safety

/-! ### Elements named by a field -/

theorem indexOf_of_eq_val {size n : Nat} {i : Fin size} (h : n = i.val) : indexOf size n = some i := by
  subst h
  simp [indexOf]

theorem indexOf_eq_none_of_le {size n : Nat} (h : size ≤ n) : indexOf size n = none := by
  simp [indexOf, h]

/-! ### Requests that act -/

/-- An action answers over the state whose assembler hunts, and its answer is all that `answered` adds (R178). -/
theorem whileRunning_request_of_accepts {code : Byte} {size : Nat} {act : List Byte → State → Answer}
    {body reply : List Byte} {status : Status} {s t : State} (accepts : Accepts s) (length : body.length = size)
    (acts : act body (huntPort s) = { status := status, body := reply, state := huntPort t }) :
    whileRunning (request code size act body) s = .next (answered code status reply t) := by
  obtain ⟨running, room⟩ := accepts
  have place : request code size act body s = hold code (act body (huntPort s)) := by
    obtain ⟨full, -⟩ | ⟨-, acted⟩ := offer_cases code
        (fun u => if body.length = size then act body u else refusedWith .badLength u) s
    · exact absurd room (Nat.not_lt.mpr full)
    · simpa only [request, length, if_true] using acted
  calc whileRunning (request code size act body) s
    _ = .next (request code size act body s) := by rw [whileRunning, if_neg running]
    _ = .next (answered code status reply t) := by rw [place, acts]; rfl

/-- A refused request changes nothing but the port. -/
theorem whileRunning_request_refused {code : Byte} {size : Nat} {act : List Byte → State → Answer}
    {body : List Byte} {status : Status} {s : State} (accepts : Accepts s) (length : body.length = size)
    (refused : act body (huntPort s) = refusedWith status (huntPort s)) :
    whileRunning (request code size act body) s = .next (answered code status [] s) :=
  whileRunning_request_of_accepts accepts length refused

/-- A request answered OK with an empty body leaves what its action leaves, and its answer. -/
theorem whileRunning_request_ok {code : Byte} {size : Nat} {act : List Byte → State → Answer}
    {body : List Byte} {s t : State} (accepts : Accepts s) (length : body.length = size)
    (done : act body (huntPort s) = ok (huntPort t)) :
    whileRunning (request code size act body) s = .next (answered code .ok [] t) :=
  whileRunning_request_of_accepts accepts length done

end Sys2Proof.Machine
end

section
/-! PROOFS. DELETE-ENTRY (R54). -/

namespace Sys2Proof.Machine

open Sys2Proof.Safety

theorem exec_deleteEntry : ∀ (body : List Byte) (s : State),
    exec (.deleteEntry body) s = whileRunning (request 0x21 2 deleteEntry body) s := by
  intros; rfl

section
variable {body : List Byte} {s : State} {r : RecordId} {x : Record}

theorem deleteEntry_index_too_high (high : 511 < field16 body 0) :
    deleteEntry body s = refusedWith .badArgument s := by
  simp [deleteEntry, indexOf_eq_none_of_le (size := 512) high]

theorem deleteEntry_free (index : field16 body 0 = r.val) (free : s.record r = none) :
    deleteEntry body s = refusedWith .notFound s := by
  simp [deleteEntry, indexOf_of_eq_val index, free]

theorem deleteEntry_inUse (index : field16 body 0 = r.val) (held : s.record r = some x)
    (used : x.admittedSlot.isSome ∨ x.pendingSlot.isSome) : deleteEntry body s = refusedWith .inUse s := by
  have inUse : x.inUse = true := by simpa [Record.inUse] using used
  simp [deleteEntry, indexOf_of_eq_val index, held, inUse]

theorem deleteEntry_unused (index : field16 body 0 = r.val) (held : s.record r = some x)
    (admitted : x.admittedSlot = none) (pending : x.pendingSlot = none) :
    deleteEntry body s = ok (s.withRecord r none) := by
  have unused : x.inUse = false := by simp [Record.inUse, admitted, pending]
  simp [deleteEntry, indexOf_of_eq_val index, held, unused]

end

/-- The record of a call in OPENING or OPEN is one that its extension slot is admitted under (R63, R114). -/
theorem record_admitted_of_call {s : State} (admission : AdmissionSound s) (calls : CallsTrusted s) {c : ContextId}
    {y : Context} (call : s.context c = some y) (live : y.phase ≠ .closing) :
    ∃ x, s.record y.index = some x ∧ x.admittedSlot = some y.ext := by
  obtain ⟨-, bound, -⟩ := calls.trusted c y call live
  exact (admission.bound y.index y.ext).mp bound

/-- Settles O53: each branch of DELETE-ENTRY in turn; the record of a live call falls under the IN-USE branch. -/
theorem entriesAreDeleted : Obligations.EntriesAreDeleted := by
  intro body s accepts length
  simp only [exec_deleteEntry]
  refine ⟨fun high => whileRunning_request_refused accepts length (deleteEntry_index_too_high high),
    fun r index => ?_⟩
  have inUse (x : Record) (held : s.record r = some x) (used : x.admittedSlot.isSome ∨ x.pendingSlot.isSome) :
      whileRunning (request 0x21 2 deleteEntry body) s = .next (answered 0x21 .inUse [] s) :=
    whileRunning_request_refused accepts length (deleteEntry_inUse index held used)
  refine ⟨fun free => ?_, inUse, fun x held admitted pending => ?_, fun admission calls c y call live same => ?_⟩
  · exact whileRunning_request_refused accepts length (deleteEntry_free index free)
  · exact whileRunning_request_ok accepts length (deleteEntry_unused index held admitted pending)
  · subst same
    obtain ⟨x, held, admitted⟩ := record_admitted_of_call admission calls call live
    exact inUse x held (.inl (by simp [admitted]))

end Sys2Proof.Machine
end

section
/-! PROOFS. LOAD-VISITOR-RULE and SET-VISITOR-MASKS (R62), and what a pattern matches (R60). -/

namespace Sys2Proof.Machine

open Sys2Proof.Safety

theorem exec_loadVisitorRule : ∀ (body : List Byte) (s : State),
    exec (.loadVisitorRule body) s = whileRunning (request 0x25 7 loadVisitorRule body) s := by
  intros; rfl

theorem exec_setVisitorMasks : ∀ (body : List Byte) (s : State),
    exec (.setVisitorMasks body) s = whileRunning (request 0x26 2 setVisitorMasks body) s := by
  intros; rfl

/-! ### Legal patterns -/

theorem legalPattern_iff (n : ExtensionNumber) : legalPattern n = true ↔ ∀ d ∈ positions n, d ≤ 9 ∨ d = 0xF := by
  simp [legalPattern, BitVec.le_def]

/-- The nibbles between the last digit and the filler are those a pattern may not hold. -/
theorem not_digit_or_filler_iff (d : Nibble) : ¬(d ≤ 9 ∨ d = 0xF) ↔ 0xA ≤ d ∧ d ≤ 0xE := by
  revert d
  decide

theorem legalPattern_eq_false_iff (n : ExtensionNumber) :
    legalPattern n = false ↔ ∃ d ∈ positions n, 0xA ≤ d ∧ d ≤ 0xE := by
  rw [← Bool.not_eq_true, legalPattern_iff]
  simp only [← not_digit_or_filler_iff, not_forall, exists_prop]

/-! ### The two requests -/

section
variable {body : List Byte} {s : State}

/-- The rule that an accepted LOAD-VISITOR-RULE writes (R62). -/
def loadedRule (body : List Byte) (k : ClassId) : VisitorRule where
  inUse := byteAt body 1 == 1
  pattern := BitVec.ofNat 24 (field24 body 2)
  mask := if byteAt body 5 = 0 then .a else .b
  cls := k

theorem loadVisitorRule_legal {v : Fin 8} {k : ClassId} (rule : byteAt body 0 = v.val) (flag : byteAt body 1 ≤ 1)
    (pattern : legalPattern (BitVec.ofNat 24 (field24 body 2)) = true) (select : byteAt body 5 ≤ 1)
    (cls : byteAt body 6 = k.val) :
    loadVisitorRule body s =
      ok { s with visitors := { s.visitors with rules := s.visitors.rules.set v (loadedRule body k) } } := by
  simp [loadVisitorRule, loadedRule, indexOf_of_eq_val rule, indexOf_of_eq_val cls, pattern, Nat.not_lt.mpr flag,
    Nat.not_lt.mpr select]

theorem loadVisitorRule_illegal (illegal : 7 < byteAt body 0 ∨ 1 < byteAt body 1 ∨
      legalPattern (BitVec.ofNat 24 (field24 body 2)) = false ∨ 1 < byteAt body 5 ∨ 7 < byteAt body 6) :
    loadVisitorRule body s = refusedWith .badArgument s := by
  unfold loadVisitorRule
  split
  case h_1 v k rule cls =>
    have rule_le : ¬7 < byteAt body 0 := fun high => by simp [indexOf_eq_none_of_le high] at rule
    have cls_le : ¬7 < byteAt body 6 := fun high => by simp [indexOf_eq_none_of_le high] at cls
    exact if_pos (by tauto)
  case h_2 => rfl

theorem setVisitorMasks_legal (a : byteAt body 0 ≤ 0x3F) (b : byteAt body 1 ≤ 0x3F) :
    setVisitorMasks body s = ok { s with visitors := { s.visitors with
      maskA := BitVec.ofNat 6 (byteAt body 0), maskB := BitVec.ofNat 6 (byteAt body 1) } } :=
  if_neg (by omega)

theorem setVisitorMasks_illegal (illegal : 0x3F < byteAt body 0 ∨ 0x3F < byteAt body 1) :
    setVisitorMasks body s = refusedWith .badArgument s :=
  if_pos illegal

end

/-! ### Matching -/

/-- The numbers agree beside bit `k` of a care mask, if the mask cares for it: in the nibble that begins at bit `4 * k`,
bit 5 standing beside position 1 (R60). -/
def AgreesBeside (mask : BitVec 6) (pattern n : ExtensionNumber) (k : Nat) : Prop :=
  mask.getLsbD k = true → pattern.extractLsb' (4 * k) 4 = n.extractLsb' (4 * k) 4

/-- The walk over the positions compares the six of them, from position 1 on. -/
theorem matchesPattern_iff_agreesBeside (mask : BitVec 6) (pattern n : ExtensionNumber) :
    matchesPattern mask pattern n = true ↔
      AgreesBeside mask pattern n 5 ∧ AgreesBeside mask pattern n 4 ∧ AgreesBeside mask pattern n 3 ∧
        AgreesBeside mask pattern n 2 ∧ AgreesBeside mask pattern n 1 ∧ AgreesBeside mask pattern n 0 := by
  simp [matchesPattern, positions, AgreesBeside, imp_iff_not_or]

theorem matchesPattern_iff (mask : BitVec 6) (pattern n : ExtensionNumber) :
    matchesPattern mask pattern n = true ↔ ∀ k, k < 6 → AgreesBeside mask pattern n k := by
  rw [matchesPattern_iff_agreesBeside]
  constructor
  · rintro ⟨at5, at4, at3, at2, at1, at0⟩ k small
    interval_cases k <;> assumption
  · intro all
    exact ⟨all 5 (by decide), all 4 (by decide), all 3 (by decide), all 2 (by decide), all 1 (by decide),
      all 0 (by decide)⟩

/-- Settles O55: R62's two requests by their legal and illegal bodies, and R60's test by `matchesPattern_iff`. -/
theorem visitorRulesAreLoaded : Obligations.VisitorRulesAreLoaded := by
  refine ⟨fun body s accepts => ?_, matchesPattern_iff⟩
  simp only [exec_loadVisitorRule, exec_setVisitorMasks]
  refine ⟨fun v k length rule flag pattern select cls => ?_, fun length illegal => ?_, fun length a b => ?_,
    fun length illegal => ?_⟩
  · exact whileRunning_request_ok accepts length
      (loadVisitorRule_legal rule flag ((legalPattern_iff _).mpr pattern) select cls)
  · rw [← legalPattern_eq_false_iff] at illegal
    exact whileRunning_request_refused accepts length (loadVisitorRule_illegal illegal)
  · exact whileRunning_request_ok accepts length (setVisitorMasks_legal a b)
  · exact whileRunning_request_refused accepts length (setVisitorMasks_illegal illegal)

end Sys2Proof.Machine
end

section
/-! PROOFS. The block computation (R126 to R128): a block is laid out segment by segment, the drawn order is a
permutation of the eight segments, and to restore a block is to undo the scramble under the same key and counter. -/

namespace Sys2Proof.Machine

/-! ### The order of the segments -/

theorem exchange_perm {order : List Nat} {i j : Nat} (hi : i < order.length) (hj : j < order.length) :
    (exchange order i j).Perm order := by
  simpa [exchange, hi, hj] using List.set_set_perm hi hj

/-- Exchanges at positions below the length keep the entries, whatever the second position of each: its remainder keeps
it at or below the first (R126). -/
theorem foldl_exchange_perm (places : List Nat) (acc : List Nat × Nat) (inside : ∀ i ∈ places, i < acc.1.length) :
    (places.foldl (fun (acc : List Nat × Nat) i => (exchange acc.1 i (acc.2 % (i + 1)), acc.2 / (i + 1))) acc).1.Perm
      acc.1 := by
  induction places generalizing acc with
  | nil => rfl
  | cons i rest ih =>
    have first : i < acc.1.length := inside i (by simp)
    have drawn : acc.2 % (i + 1) < acc.1.length := (Nat.le_of_lt_succ (Nat.mod_lt acc.2 i.succ_pos)).trans_lt first
    have exchanged := exchange_perm first drawn
    refine (ih _ fun j later => ?_).trans exchanged
    exact exchanged.length_eq ▸ inside j (List.mem_cons_of_mem i later)

theorem segmentOrder_perm (t : Nat) : (segmentOrder t).Perm (List.range 8) :=
  foldl_exchange_perm [7, 6, 5, 4, 3, 2, 1] ([0, 1, 2, 3, 4, 5, 6, 7], t) (by simp)

theorem segmentOrder_length (t : Nat) : (segmentOrder t).length = 8 := by
  simpa using (segmentOrder_perm t).length_eq

theorem segmentOrder_getD_lt (t : Nat) {n : Nat} (small : n < 8) : (segmentOrder t).getD n 0 < 8 := by
  have inside : n < (segmentOrder t).length := by rwa [segmentOrder_length]
  rw [List.getD_eq_getElem _ _ inside]
  exact List.mem_range.mp ((segmentOrder_perm t).mem_iff.mp (List.getElem_mem inside))

/-- Every segment is the one collected for some output position. -/
theorem exists_segmentOrder_getD_eq (t : Nat) {g : Nat} (small : g < 8) : ∃ n, n < 8 ∧ (segmentOrder t).getD n 0 = g := by
  obtain ⟨n, inside, collected⟩ :=
    List.getElem_of_mem ((segmentOrder_perm t).mem_iff.mpr (List.mem_range.mpr small))
  exact ⟨n, segmentOrder_length t ▸ inside, by rw [List.getD_eq_getElem _ _ inside, collected]⟩

/-- No segment is sent twice, so the output position of segment `order[n]` is `n`. -/
theorem idxOf_segmentOrder_getD (t : Nat) {n : Nat} (small : n < 8) :
    (segmentOrder t).idxOf ((segmentOrder t).getD n 0) = n := by
  have inside : n < (segmentOrder t).length := by rwa [segmentOrder_length]
  rw [List.getD_eq_getElem _ _ inside]
  exact ((segmentOrder_perm t).nodup_iff.mpr List.nodup_range).idxOf_getElem n inside

/-! ### Blocks by segment and sample -/

/-- The block of `count` segments whose code at segment `g` and sample `i` is `code g i`. -/
def blockOf (count segment : Nat) (code : Nat → Nat → Sample) : List Sample :=
  (List.range count).flatMap fun g => (List.range segment).map (code g)

theorem blockOf_succ (count segment : Nat) (code : Nat → Nat → Sample) :
    blockOf (count + 1) segment code = blockOf count segment code ++ (List.range segment).map (code count) := by
  simp [blockOf, List.range_succ]

theorem blockOf_length (count segment : Nat) (code : Nat → Nat → Sample) :
    (blockOf count segment code).length = count * segment := by
  simp [blockOf, List.length_flatMap]

/-- A sample of one of `count` segments stands inside the block. -/
theorem sample_lt {count segment g i : Nat} (hg : g < count) (hi : i < segment) :
    g * segment + i < count * segment :=
  calc g * segment + i
    _ < (g + 1) * segment := by rw [Nat.succ_mul]; omega
    _ ≤ count * segment := Nat.mul_le_mul_right segment hg

theorem blockOf_getElem? {count segment g i : Nat} (code : Nat → Nat → Sample) (hg : g < count) (hi : i < segment) :
    (blockOf count segment code)[g * segment + i]? = some (code g i) := by
  induction count with
  | zero => omega
  | succ count ih =>
    rw [blockOf_succ]
    obtain earlier | rfl := Nat.lt_succ_iff_lt_or_eq.mp hg
    · have inside : g * segment + i < (blockOf count segment code).length := by
        rw [blockOf_length]
        exact sample_lt earlier hi
      rw [List.getElem?_append_left inside]
      exact ih earlier
    · rw [List.getElem?_append_right (by simp [blockOf_length])]
      simp [blockOf_length, hi]

/-- Two blocks are one when they agree at every sample of every segment. -/
theorem eq_of_forall_segment_sample {count segment : Nat} {a b : List Sample} (ha : a.length = count * segment)
    (hb : b.length = count * segment)
    (same : ∀ g i, g < count → i < segment → a[g * segment + i]? = b[g * segment + i]?) : a = b := by
  refine List.ext_getElem? fun p => ?_
  obtain outside | inside := le_or_gt (count * segment) p
  · rw [List.getElem?_eq_none (ha ▸ outside), List.getElem?_eq_none (hb ▸ outside)]
  · have nonempty : 0 < segment := Nat.pos_of_mul_pos_left (Nat.zero_lt_of_lt inside)
    have at_p := same (p / segment) (p % segment) (Nat.div_lt_of_lt_mul (by rwa [Nat.mul_comm])) (Nat.mod_lt p nonempty)
    rwa [Nat.div_add_mod'] at at_p

/-! ### Scrambled and restored blocks -/

section
variable (segment : Nat) (masking : Bool) (k : KeyWords) (counter : Word) (codes : List Sample)

/-- The order in which a block's segments are sent (R125, R126). -/
def blockOrder (k : KeyWords) (counter : Word) : List Nat := segmentOrder (orderWord (blockWord k counter)).toNat

theorem scramble_eq_blockOf : scramble segment masking k counter codes = blockOf 8 segment fun n i =>
    codes.getD ((blockOrder k counter).getD n 0 * segment + i) 0 ^^^ positionMask masking (blockWord k counter) n := rfl

theorem restore_eq_blockOf : restore segment masking k counter codes = blockOf 8 segment fun g i =>
    codes.getD ((blockOrder k counter).idxOf g * segment + i) 0 ^^^
      positionMask masking (blockWord k counter) ((blockOrder k counter).idxOf g) := rfl

theorem scramble_length : (scramble segment masking k counter codes).length = 8 * segment :=
  blockOf_length 8 segment _

theorem restore_length : (restore segment masking k counter codes).length = 8 * segment :=
  blockOf_length 8 segment _

variable {n i : Nat}

/-- Output position `n` of a scrambled block holds segment `order[n]`, masked for that position (R127). -/
theorem scramble_getElem? (hn : n < 8) (hi : i < segment) :
    (scramble segment masking k counter codes)[n * segment + i]? =
      some (codes.getD ((blockOrder k counter).getD n 0 * segment + i) 0 ^^^
        positionMask masking (blockWord k counter) n) := by
  rw [scramble_eq_blockOf, blockOf_getElem? _ hn hi]

/-- Segment `order[n]` of a restored block holds output position `n`, masked for that position (R128). -/
theorem restore_getElem? (hn : n < 8) (hi : i < segment) :
    (restore segment masking k counter codes)[(blockOrder k counter).getD n 0 * segment + i]? =
      some (codes.getD (n * segment + i) 0 ^^^ positionMask masking (blockWord k counter) n) := by
  have target : (blockOrder k counter).getD n 0 < 8 := segmentOrder_getD_lt _ hn
  have taken : (blockOrder k counter).idxOf ((blockOrder k counter).getD n 0) = n := idxOf_segmentOrder_getD _ hn
  rw [restore_eq_blockOf, blockOf_getElem? _ target hi, taken]

/-- A position's mask applied twice cancels, and each segment returns to where it was collected (R128). -/
theorem restore_scramble (length : codes.length = 8 * segment) :
    restore segment masking k counter (scramble segment masking k counter codes) = codes := by
  refine eq_of_forall_segment_sample (restore_length ..) length fun g i hg hi => ?_
  obtain ⟨n, hn, rfl⟩ : ∃ n, n < 8 ∧ (blockOrder k counter).getD n 0 = g := exists_segmentOrder_getD_eq _ hg
  have inside : (blockOrder k counter).getD n 0 * segment + i < codes.length := length ▸ sample_lt hg hi
  rw [restore_getElem? _ _ _ _ _ hn hi, List.getD_eq_getElem?_getD, scramble_getElem? _ _ _ _ _ hn hi,
    Option.getD_some, BitVec.xor_assoc, BitVec.xor_self, BitVec.xor_zero, List.getD_eq_getElem _ _ inside,
    List.getElem?_eq_getElem inside]

end

/-- Settles O15: R128 position by position is `restore_getElem?`, and the round trip is `restore_scramble`. -/
theorem restoreUndoesScramble : Obligations.RestoreUndoesScramble := by
  refine ⟨fun segment masking k counter codes _ =>
    ⟨restore_length .., segmentOrder_perm _, fun n i hn hi => ?_⟩, restore_scramble⟩
  simpa only [positionMask, blockMask, blockOrder, BitVec.xor_assoc] using
    restore_getElem? segment masking k counter codes hn hi

end Sys2Proof.Machine
end

section
/-! PROOFS. The sample codes of a burst (R156): a code is a magnitude of seven bits under a sign bit. -/

namespace Sys2Proof.Machine

/-! ### The bits of a code -/

theorem byte_toNat {n : Nat} (small : n < 256) : (byte n).toNat = n := Nat.mod_eq_of_lt small

/-- A byte's top bit is set exactly when its value is 128 or more. -/
theorem getLsbD_seven_iff (c : Byte) : c.getLsbD 7 = true ↔ 128 ≤ c.toNat := by
  change c.msb = true ↔ 128 ≤ c.toNat
  simp [BitVec.msb_eq_decide]

/-! ### Magnitude and sign -/

/-- The magnitude of sample `k`: it falls once for every `step` whole periods before the sample (R156, item 2). -/
def burstMagnitude (d : ToneDescriptor) (k : Nat) : Nat :=
  d.magnitude - d.decrement * (k / (2 * d.halfPeriod) / d.step)

theorem burstMagnitude_le (d : ToneDescriptor) (k : Nat) : burstMagnitude d k ≤ d.magnitude := Nat.sub_le _ _

theorem burstMagnitude_of_decrement_zero {d : ToneDescriptor} (level : d.decrement = 0) (k : Nat) :
    burstMagnitude d k = d.magnitude := by
  simp [burstMagnitude, level]

section
variable {d : ToneDescriptor} {k : Nat}

theorem burstCode_positive (early : k % (2 * d.halfPeriod) < d.halfPeriod) :
    burstCode d k = byte (burstMagnitude d k) := if_pos early

theorem burstCode_negative (late : d.halfPeriod ≤ k % (2 * d.halfPeriod)) :
    burstCode d k = byte (128 + burstMagnitude d k) := if_neg late.not_gt

/-- The magnitude never reaches the sign bit, so a code is their sum. -/
theorem burstCode_toNat (inRange : d.magnitude ≤ 127) : (burstCode d k).toNat =
    (if k % (2 * d.halfPeriod) < d.halfPeriod then 0 else 128) + burstMagnitude d k := by
  have small : burstMagnitude d k ≤ 127 := (burstMagnitude_le d k).trans inRange
  split
  next early => rw [burstCode_positive early, byte_toNat (by omega), Nat.zero_add]
  next late => rw [burstCode_negative (Nat.le_of_not_lt late), byte_toNat (by omega)]

theorem burstCode_sign (inRange : d.magnitude ≤ 127) :
    (burstCode d k).getLsbD 7 = true ↔ d.halfPeriod ≤ k % (2 * d.halfPeriod) := by
  have small : burstMagnitude d k ≤ 127 := (burstMagnitude_le d k).trans inRange
  rw [getLsbD_seven_iff, burstCode_toNat inRange]
  split <;> omega

theorem burstCode_toNat_mod (inRange : d.magnitude ≤ 127) : (burstCode d k).toNat % 128 = burstMagnitude d k := by
  have small : burstMagnitude d k ≤ 127 := (burstMagnitude_le d k).trans inRange
  rw [burstCode_toNat inRange]
  split <;> omega

theorem burstCode_first_positive (wide : 0 < d.halfPeriod) (inRange : d.magnitude ≤ 127) :
    (burstCode d 0).getLsbD 7 = false := by
  rw [← Bool.not_eq_true, burstCode_sign inRange, Nat.zero_mod]
  exact wide.not_ge

end

/-- Settles O46: the code is sign and magnitude by `burstCode_toNat`, and its top bit the sign by `burstCode_sign`. -/
theorem burstCodesFade : Obligations.BurstCodesFade := by
  intro d k wide _ _ inRange _
  refine ⟨burstCode_toNat inRange, burstCode_sign inRange, burstCode_first_positive (by omega) inRange, fun level => ?_⟩
  rw [burstCode_toNat_mod inRange, burstMagnitude_of_decrement_zero level]

end Sys2Proof.Machine
end

section
/-! PROOFS. SET-EVENT-MASK and the posts it governs (R171, R172). -/

namespace Sys2Proof.Machine

open Sys2Proof.Safety

theorem exec_setEventMask : ∀ (body : List Byte) (s : State),
    exec (.setEventMask body) s = whileRunning (request 0x60 2 setEventMask body) s := by
  intros; rfl

/-! ### The request -/

section
variable {body : List Byte} {s : State}

theorem setEventMask_legal (legal : field16 body 0 < 2048) :
    setEventMask body s =
      ok { s with events := { s.events with mask := BitVec.ofNat 11 (field16 body 0) } } :=
  if_neg (by omega)

theorem setEventMask_illegal (illegal : 2048 ≤ field16 body 0) :
    setEventMask body s = refusedWith .badArgument s :=
  if_pos illegal

end

/-! ### Posts -/

/-- The 11 bits of the mask, numbered from 1, have a place for every event kind (R170, R172). -/
theorem EventKind.code_bounds (kind : EventKind) : 1 ≤ kind.code ∧ kind.code ≤ 11 := by
  cases kind <;> decide

section
variable {kind : EventKind} {slot : Option SlotId} {context : Option ContextId} {index : Option RecordId}
  {detail : Byte} {s : State}

theorem post_disabled (disabled : s.events.mask.getLsbD (kind.code - 1) = false) :
    post kind slot context index detail s = s := by
  have not_enabled : s.events.mask.getLsbD (kind.code - 1) ≠ true := Bool.eq_false_iff.mp disabled
  obtain ⟨-, same⟩ | ⟨enabled, -⟩ | ⟨enabled, -⟩ := post_cases kind slot context index detail s
  · exact same
  · exact absurd enabled not_enabled
  · exact absurd enabled not_enabled

theorem post_enabled (enabled : s.events.mask.getLsbD (kind.code - 1) = true)
    (room : s.events.queue.length < Config.eventQueueSize) :
    post kind slot context index detail s = { s with events := { s.events with queue := s.events.queue ++
      [{ kind := kind, stamp := s.clock.reading, slot := slot, context := context, index := index
         detail := detail }] } } := by
  obtain ⟨disabled, -⟩ | ⟨-, -, joined⟩ | ⟨-, full, -⟩ := post_cases kind slot context index detail s
  · exact absurd enabled (Bool.eq_false_iff.mp disabled)
  · exact joined
  · exact absurd room full.not_gt

end

/-- Settles O59: R172's request by its legal and illegal masks, and a post by the bit of its kind. -/
theorem eventMaskGovernsPosts : Obligations.EventMaskGovernsPosts := by
  refine ⟨fun body s accepts length => ?_, fun kind slot context index detail s => ?_, rfl, rfl⟩
  · rw [exec_setEventMask]
    exact ⟨fun legal => whileRunning_request_ok accepts length (setEventMask_legal legal),
      fun illegal => whileRunning_request_refused accepts length (setEventMask_illegal illegal)⟩
  · obtain ⟨low, high⟩ := kind.code_bounds
    exact ⟨low, high, post_disabled, post_enabled⟩

end Sys2Proof.Machine
end

section
/-! SUPPORT. What a command can do to the state, once. Every command is made of the moves below, of changes of the
Highway Interface and of changes of the Maintenance Port; a law that each of them keeps is a law that every step keeps. -/

namespace Sys2Proof.Machine

open Sys2Proof.Safety

/-! ### Changes that leave the laws between the tables alone -/

/-- A slot record whose kind, admission and bindings stand; a queue within its size stays within it (R47). -/
structure Slot.Quiet (r t : Slot) : Prop where
  kind : t.kind = r.kind
  admitted : t.isAdmitted = r.isAdmitted
  signing : t.signingOn = r.signingOn
  boundIndex : t.boundIndex = r.boundIndex
  visitor : t.visitor = r.visitor
  number : t.number = r.number
  admissionClass : t.admissionClass = r.admissionClass
  challenge : t.challenge = r.challenge
  boundContext : t.boundContext = r.boundContext
  partners : t.partners = r.partners
  queue : r.txQueue.length ≤ 4 → t.txQueue.length ≤ 4

theorem Slot.Quiet.refl (r : Slot) : r.Quiet r := ⟨rfl, rfl, rfl, rfl, rfl, rfl, rfl, rfl, rfl, rfl, id⟩

theorem Slot.Quiet.trans {r t u : Slot} (a : r.Quiet t) (b : t.Quiet u) : r.Quiet u :=
  ⟨b.kind.trans a.kind, b.admitted.trans a.admitted, b.signing.trans a.signing, b.boundIndex.trans a.boundIndex,
    b.visitor.trans a.visitor, b.number.trans a.number, b.admissionClass.trans a.admissionClass,
    b.challenge.trans a.challenge, b.boundContext.trans a.boundContext, b.partners.trans a.partners, b.queue ∘ a.queue⟩

/-- A context in CLOSING has a scrambler in CLEARING (R108). -/
def Context.Settled (x : Context) : Prop := x.phase = .closing → x.scrambler.state = .clearing

/-- A context whose bindings and record stand, and which does not come back from CLOSING. -/
structure Context.Quiet (x y : Context) : Prop where
  tie : y.tie = x.tie
  ext : y.ext = x.ext
  index : y.index = x.index
  settled : x.Settled → y.Settled ∧ (x.phase = .closing → y.phase = .closing)

theorem Context.Quiet.refl (x : Context) : x.Quiet x := ⟨rfl, rfl, rfl, fun h => ⟨h, id⟩⟩

/-- The standing is the one that the fault counter gives (R76). -/
def Record.Judged (x : Record) : Prop :=
  x.faults ≤ 255 ∧ (x.standing = .barred → x.faults = 255) ∧
    (x.standing ≠ .barred → (x.standing = .suspect ↔ 128 ≤ x.faults))

/-- A queue within its size stays within it, and a mark or count stays backed by what the queue holds (R171, R174). -/
structure Events.Kept (e f : Events) : Prop where
  bound : e.queue.length ≤ 32 → f.queue.length ≤ 32
  backed : (e.overflow = true → e.queue ≠ []) → f.overflow = true → f.queue ≠ []

/-- As `Events.Kept`, of the call records. -/
structure Records.Kept (e f : Records) : Prop where
  bound : e.queue.length ≤ 64 → f.queue.length ≤ 64
  backed : (e.discarded ≠ 0 → e.queue ≠ []) → f.discarded ≠ 0 → f.queue ≠ []

/-! ### Moves -/

/-- What an operation has yet to settle: the slots whose sign-on it has stopped or is to refuse (R66, R71), and the records that it has
made BARRED and whose admitted slot it has not signed off (R78). -/
structure Ledger where
  stopped : List SlotId
  barred : List RecordId

/-- Nothing is left to settle. -/
def Ledger.clear : Ledger := ⟨[], []⟩

/-- The moves of which operations are made. Highway Interface, Maintenance Port and the queue of commands stand. -/
inductive Move : Ledger × State → Ledger × State → Prop
  /-- Slot records change quietly. -/
  | slots {L s} (v : Vector Slot 127) (quiet : ∀ i : SlotId, (s.slot i).Quiet v[i]) :
      Move (L, s) (L, { s with slots := v })
  /-- Contexts change quietly. -/
  | contexts {L s} (v : Vector (Option Context) 64)
      (quiet : ∀ c : ContextId, Option.Rel Context.Quiet (s.context c) v[c]) :
      Move (L, s) (L, { s with contexts := v })
  /-- An operation on the Transform Engine. -/
  | engine {L s} (e : Engine) (sound : EngineSound s.engine → EngineSound e) : Move (L, s) (L, s.withEngine e)
  /-- A post, a change of the mask, or events read. -/
  | events {L s} (e : Events) (kept : s.events.Kept e) : Move (L, s) (L, { s with events := e })
  /-- A call record stored, or call records read. -/
  | records {L s} (e : Records) (kept : s.records.Kept e) : Move (L, s) (L, { s with records := e })
  /-- Tables on which no law leans. -/
  | tables {L s} (classes : Vector ClassRecord 8) (visitors : Visitors) (timers : Timers)
      (sites : Vector (Option Site) 32) (tones : Tones) (clock : Clock)
      (count : visitors.count = s.visitors.count) (timebase : clock.timebase = s.clock.timebase)
      (reading : clock.reading = s.clock.reading) :
      Move (L, s) (L, { s with classes, visitors, timers, sites, tones, clock })
  /-- A record's counter and standing follow each other, without a bar. -/
  | judge {L s} (r : RecordId) (x y : Record) (held : s.record r = some x) (admitted : y.admittedSlot = x.admittedSlot)
      (pending : y.pendingSlot = x.pendingSlot) (judged : x.Judged → y.Judged)
      (barred : y.standing = .barred → x.standing = .barred) : Move (L, s) (L, s.withRecord r (some y))
  /-- A record becomes BARRED. -/
  | bar {S B s} (r : RecordId) (x : Record) (held : s.record r = some x) :
      Move (⟨S, B⟩, s) (⟨S, r :: B⟩, s.withRecord r (some { x with faults := 255, standing := .barred }))
  /-- No slot is admitted under a BARRED record any more. -/
  | barred {S B s} (r : RecordId)
      (out : ∀ x a, s.record r = some x → x.admittedSlot = some a → (s.slot a).isAdmitted = false) :
      Move (⟨S, r :: B⟩, s) (⟨S, B⟩, s)
  /-- A sign-on in progress is stopped; its record is no longer pending. -/
  | stop {S B s} (i : SlotId) (o : Option RecordId) (signing : (s.slot i).signingOn = true)
      (named : ∀ r, o = some r → ∃ x, s.record r = some x ∧ x.pendingSlot = some i)
      (found : o = none → ∀ r x, s.record r = some x → x.pendingSlot ≠ some i) :
      Move (⟨S, B⟩, s) (⟨i :: S, B⟩, onSlot i (fun r => { r with challenge := none })
        (o.elim s fun r => onRecord r (fun x => { x with pendingSlot := none }) s))
  /-- A sign-on that has not been challenged is to be refused. -/
  | hear {S B s} (i : SlotId) (idle : (s.slot i).signingOn = false)
      (heard : (s.slot i).kind = .extension ∧ (s.slot i).admission = .locked ∨
        ∃ r x, s.record r = some x ∧ x.pendingSlot = some i) : Move (⟨S, B⟩, s) (⟨i :: S, B⟩, s)
  /-- A sign-on stopped or heard ends in LOCKED or HOLD. -/
  | settle {S B s} (i : SlotId) (a : Admission) (ends : a = .locked ∨ a = .hold) :
      Move (⟨i :: S, B⟩, s) (⟨S, B⟩, onSlot i (fun r => { r with admission := a }) s)
  /-- An admission ends, once no call of the slot is open. -/
  | lockOut {L s} (i : SlotId) (admitted : (s.slot i).isAdmitted = true)
      (closed : ∀ c ∈ (s.slot i).partners, ∀ x, s.context c = some x → x.phase = .closing) :
      Move (L, s) (L, onSlot i Slot.lockOut (releaseAdmission (s.slot i) s))
  /-- A sign-on is challenged. -/
  | challenge {s} (i : SlotId) (r : RecordId) (x : Record) (v : BitVec 32) (kind : (s.slot i).kind = .extension)
      (locked : (s.slot i).admission = .locked) (held : s.record r = some x) (pending : x.pendingSlot = none) :
      Move (.clear, s) (.clear, onSlot i (fun y => { y with
          admission := .challenged, challenge := some v, responseTimer := some { elapsed := 0, due := false } })
        (onRecord r (fun x => { x with pendingSlot := some i }) s))
  /-- A visitor is admitted. -/
  | visitor {s} (i : SlotId) (n : ExtensionNumber) (k : ClassId) (kind : (s.slot i).kind = .extension)
      (locked : (s.slot i).admission = .locked) (room : s.visitors.count < 32) :
      Move (.clear, s) (.clear, onSlot i (fun r => { r with
          admission := .admitted, visitor := true, number := some n, admissionClass := some k, boundIndex := none })
        { s with visitors := { s.visitors with count := s.visitors.count + 1 } })
  /-- A stopped sign-on is admitted under its record. -/
  | enrol {s} (i : SlotId) (r : RecordId) (x : Record) (n : ExtensionNumber) (k : ClassId) (stamp : Reading)
      (held : s.record r = some x) (out : ∀ a, x.admittedSlot = some a → (s.slot a).isAdmitted = false) :
      Move (⟨[i], []⟩, s) (.clear, onRecord r (fun y => { y with admittedSlot := some i, lastSignOn := some stamp })
        (onSlot i (fun y => { y with
          admission := .admitted, boundIndex := some r, number := some n, admissionClass := some k
          visitor := false }) s))
  /-- A context opens on a free tie slot for an admitted extension under a record that is not BARRED. -/
  | opens {s} (c : ContextId) (x : Context) (y : Record) (free : s.context c = none) (phase : x.phase ≠ .closing)
      (tie : (s.slot x.tie).kind = .tie) (unbound : (s.slot x.tie).boundContext = none)
      (ext : (s.slot x.ext).kind = .extension) (admitted : (s.slot x.ext).isAdmitted = true)
      (index : (s.slot x.ext).boundIndex = some x.index) (room : (s.slot x.ext).partners.length < 4)
      (held : s.record x.index = some y) (standing : y.standing ≠ .barred) :
      Move (.clear, s) (.clear, onSlot x.ext (fun r => { r with partners := r.partners ++ [c] })
        (onSlot x.tie (fun r => { r with boundContext := some c }) (s.withContext c (some x))))
  /-- A context becomes FREE with its bindings. -/
  | free {L s} (c : ContextId) (x : Context) (held : s.context c = some x) :
      Move (L, s) (L, (unbind c x s).withContext c none)
  /-- A slot that is not in use takes a new kind. -/
  | rekind {s} (i : SlotId) (k : Kind) (n : Nat) (unused : (s.slot i).inUse = false) :
      Move (.clear, s) (.clear, onSlot i (Slot.rekind k n) s)
  /-- A record not in use is written afresh, or becomes free. -/
  | file {s} (r : RecordId) (o : Option Record) (unused : ∀ x, s.record r = some x → x.inUse = false)
      (fresh : ∀ y, o = some y → y.inUse = false ∧ y.Judged) : Move (.clear, s) (.clear, s.withRecord r o)
  /-- The directory is emptied, once nothing leans on it. -/
  | erase {s} (alone : ∀ i, (s.slot i).isAdmitted = false ∧ (s.slot i).signingOn = false)
      (closed : ∀ c, s.context c = none) : Move (.clear, s) (.clear, { s with directory := Vector.replicate 512 none })

/-- Moves that settle what they have begun, beside what `L` holds. -/
abbrev Moves (L : Ledger) (s t : State) : Prop := Relation.ReflTransGen Move (L, s) (L, t)

/-- A step of a command: a move with nothing left to settle around it, or a change of the Highway Interface, of the
clock's reading or of the Maintenance Port. -/
inductive Steps : State → State → Prop
  | refl {s} : Steps s s
  | moves {s t u} (before : Steps s t) (moves : Moves .clear t u) : Steps s u
  | highway {s t} (before : Steps s t) (h : Highway) (sound : LineInRange t → LineInRange (t.withHighway h)) :
      Steps s (t.withHighway h)
  | port {s t} (before : Steps s t) (p : Port) (bound : t.port.holding.length ≤ 2 → p.holding.length ≤ 2) :
      Steps s (t.withPort p)
  | clock {s t} (before : Steps s t) (r : Reading) : Steps s { t with clock := { t.clock with reading := r } }

/-! ### Working with moves -/

theorem Moves.refl {L : Ledger} {s : State} : Moves L s s := Relation.ReflTransGen.refl

theorem Moves.trans {L M : Ledger} {s t u : State} (a : Moves L s t) (b : Relation.ReflTransGen Move (L, t) (M, u)) :
    Relation.ReflTransGen Move (L, s) (M, u) :=
  Relation.ReflTransGen.trans a b

theorem Moves.of {L : Ledger} {s t : State} (a : Move (L, s) (L, t)) : Moves L s t := .single a

theorem Steps.of {s t : State} (a : Moves .clear s t) : Steps s t := .moves .refl a

theorem Steps.trans {s t u : State} (a : Steps s t) (b : Steps t u) : Steps s u := by
  induction b with
  | refl => exact a
  | moves _ m ih => exact ih.moves m
  | highway _ h sound ih => exact ih.highway h sound
  | port _ p bound ih => exact ih.port p bound
  | clock _ r ih => exact ih.clock r

theorem forEach_moves {α : Type} {L : Ledger} {f : α → State → State} (each : ∀ x s, Moves L s (f x s)) (xs : List α)
    (s : State) : Moves L s (forEach xs f s) :=
  forEach_keeps (P := Moves L s) (fun x t h => h.trans (each x t)) xs s .refl

theorem forEach_steps {α : Type} {f : α → State → State} (each : ∀ x s, Steps s (f x s)) (xs : List α)
    (s : State) : Steps s (forEach xs f s) :=
  forEach_keeps (P := Steps s) (fun x t h => h.trans (each x t)) xs s .refl

/-- What moves leave alone. -/
theorem Move.frame {a b : Ledger × State} (m : Move a b) :
    b.2.highway = a.2.highway ∧ b.2.port = a.2.port ∧ b.2.pending = a.2.pending ∧
      b.2.clock.timebase = a.2.clock.timebase ∧ b.2.clock.reading = a.2.clock.reading := by
  cases m with
  | tables _ _ _ _ _ _ _ timebase reading => exact ⟨rfl, rfl, rfl, timebase, reading⟩
  | stop i o => cases o <;> exact ⟨rfl, rfl, rfl, rfl, rfl⟩
  | lockOut i =>
    simp only [onSlot, withSlot_highway, withSlot_port, withSlot_pending, withSlot_clock]
    unfold releaseAdmission
    repeat' split
    all_goals exact ⟨rfl, rfl, rfl, rfl, rfl⟩
  | _ => exact ⟨rfl, rfl, rfl, rfl, rfl⟩

/-- What moves leave alone, along any run of them. -/
theorem moves_frame {a b : Ledger × State} (m : Relation.ReflTransGen Move a b) :
    b.2.highway = a.2.highway ∧ b.2.port = a.2.port ∧ b.2.pending = a.2.pending ∧
      b.2.clock.timebase = a.2.clock.timebase ∧ b.2.clock.reading = a.2.clock.reading := by
  induction m with
  | refl => exact ⟨rfl, rfl, rfl, rfl, rfl⟩
  | tail _ m ih =>
    obtain ⟨highway, port, pending, timebase, reading⟩ := m.frame
    obtain ⟨highway', port', pending', timebase', reading'⟩ := ih
    exact ⟨highway.trans highway', port.trans port', pending.trans pending', timebase.trans timebase',
      reading.trans reading'⟩

end Sys2Proof.Machine
end

section
/-! SUPPORT. Each operation of the Transform Engine keeps the engine sound (R86 to R92). -/

namespace Sys2Proof.Machine

open Sys2Proof.Safety

theorem Job.sameRequester_comm (p q : Job) : p.sameRequester q = q.sameRequester p := by
  cases p <;> cases q <;> simp [Job.sameRequester, eq_comm]

/-- A withdrawal leaves a sound engine sound: it aborts exactly the request in flight that it withdraws (R92). -/
theorem withdraw_sound {e : Engine} (p : Job → Bool) (sound : EngineSound e) : EngineSound (e.withdraw p) := by
  obtain ⟨distinct, marked, listed, busy, idle, resting⟩ := sound
  by_cases aborted : ∃ q ∈ e.requests, q.inFlight = true ∧ p q.job = true
  · have flag : (e.requests.any fun q => q.inFlight && p q.job) = true := by simpa using aborted
    have operation : (e.withdraw p).operation = none := by simp [Engine.withdraw, flag]
    have toRest : (e.withdraw p).toRest = true := by simp [Engine.withdraw, flag]
    obtain ⟨q, member, flying, selected⟩ := aborted
    have job := marked q member flying
    refine ⟨distinct.filter _, fun r kept flying' => ?_, by simp [operation], by simp [operation],
      fun _ => .inr toRest, fun _ => ⟨operation, fun phase => ?_⟩⟩
    · obtain ⟨member', unselected⟩ := List.mem_filter.mp kept
      have same : q.job = r.job := Option.some.inj (job.symm.trans (marked r member' flying'))
      simp [← same, selected] at unselected
    · have phase : e.phase = .idle := phase
      cases op : e.operation with
      | none => simp [op] at job
      | some _ => simpa [phase] using busy (by simp [op])
  · have flag : (e.requests.any fun q => q.inFlight && p q.job) = false := by simpa using aborted
    have operation : (e.withdraw p).operation = e.operation := by simp [Engine.withdraw, flag]
    have toRest : (e.withdraw p).toRest = e.toRest := by simp [Engine.withdraw, flag]
    refine ⟨distinct.filter _, fun r kept flying => ?_, fun op some => ?_, ?_, ?_, ?_⟩
    · rw [operation]
      exact marked r (List.mem_of_mem_filter kept) flying
    · obtain ⟨q, member, flying, job⟩ := listed op (operation ▸ some)
      refine ⟨q, List.mem_filter.mpr ⟨member, ?_⟩, flying, job⟩
      simpa using fun selected => aborted ⟨q, member, flying, selected⟩
    · rw [operation]
      exact busy
    · rw [operation, toRest]
      exact idle
    · rw [operation, toRest]
      exact resting

/-- A posting replaces the request of its requester and kind (R89). -/
theorem post_sound {e : Engine} (j : Job) (sound : EngineSound e) : EngineSound (e.post j) := by
  obtain ⟨distinct, marked, listed, busy, idle, resting⟩ := withdraw_sound (Job.sameRequester j) sound
  refine ⟨?_, ?_, ?_, busy, idle, resting⟩
  · rw [post_requests]
    refine List.pairwise_append.mpr ⟨distinct, List.pairwise_singleton _ _, fun q kept r last => ?_⟩
    obtain rfl := List.mem_singleton.mp last
    simpa [Job.sameRequester_comm] using (List.mem_filter.mp kept).2
  · intro q member flying
    rw [post_requests] at member
    obtain kept | last := List.mem_append.mp member
    · exact marked q kept flying
    · simp [List.mem_singleton.mp last] at flying
  · intro op some
    obtain ⟨q, kept, rest⟩ := listed op some
    exact ⟨q, List.mem_append_left _ kept, rest⟩

/-- A soft reset leaves an empty list, and an engine that rests when an operation was in flight (R97). -/
theorem stop_sound {e : Engine} (sound : EngineSound e) : EngineSound e.stop := by
  obtain ⟨-, -, -, busy, idle, resting⟩ := sound
  refine ⟨.nil, nofun, nofun, nofun, fun phase => .inr ?_, fun rests => ⟨rfl, fun phase => ?_⟩⟩
  · simpa [Engine.stop, or_comm] using idle phase
  · have phase : e.phase = .idle := phase
    obtain rests | flying : e.toRest = true ∨ e.operation.isSome = true := by simpa [Engine.stop] using rests
    · exact (resting rests).2 phase
    · simpa [phase] using busy flying

/-- The list, the operation and the phase are all that soundness speaks of. -/
theorem engine_sound_congr {e f : Engine} (requests : f.requests = e.requests) (operation : f.operation = e.operation)
    (phase : f.phase = e.phase) (toRest : f.toRest = e.toRest) (sound : EngineSound e) : EngineSound f := by
  obtain ⟨distinct, marked, listed, busy, idle, resting⟩ := sound
  constructor
  · rwa [requests]
  · rwa [requests, operation]
  · rwa [requests, operation]
  · rwa [operation, phase]
  · rwa [operation, phase, toRest]
  · rwa [operation, phase, toRest]

theorem loadJob_job (j : Job) (s : State) : (loadJob j s).job = j := by
  cases j <;> rfl

theorem selected_mem {e : Engine} {q : Request} (selected : e.selected = some q) : q ∈ e.requests :=
  List.mem_of_mem_filter (List.mem_of_find?_eq_some selected)

/-- A load marks one request and puts its operation in flight (R87, R88). -/
theorem load_sound {e : Engine} {q : Request} (op : Operation) (sound : EngineSound e) (phase : e.phase = .idle)
    (member : q ∈ e.requests) (job : op.job = q.job) : EngineSound { e with
      phase := .load, operation := some op
      requests := e.requests.map fun p => if p.job = q.job then { p with inFlight := true } else p } := by
  obtain ⟨distinct, marked, listed, busy, idle, resting⟩ := sound
  have jobs (p : Request) : (if p.job = q.job then { p with inFlight := true } else p : Request).job = p.job := by
    split <;> rfl
  refine ⟨?_, ?_, ?_, fun _ => .inl rfl, fun _ => .inl rfl, fun rests => absurd phase (resting rests).2⟩
  · exact List.pairwise_map.mpr (distinct.imp fun apart => by simpa only [jobs] using apart)
  · intro r mapped flying
    obtain ⟨p, member', rfl⟩ := List.mem_map.mp mapped
    by_cases same : p.job = q.job
    · simp [same, job]
    · have flying : p.inFlight = true := by simpa [same] using flying
      have job' := marked p member' flying
      cases flown : e.operation with
      | none => simp [flown] at job'
      | some _ => simpa [phase] using busy (by simp [flown])
  · intro x some
    obtain rfl := Option.some.inj some
    exact ⟨_, List.mem_map_of_mem member, by simp, by simp [job]⟩

/-- A frame moves the phase on and runs a round of the operation in flight, whose job stands (R87). -/
theorem runRound_job (op : Operation) : op.runRound.job = op.job := by
  unfold Operation.runRound
  dsimp only
  split
  · rfl
  · split <;> rfl

theorem beginFrame_sound {e : Engine} (sound : EngineSound e) : EngineSound e.beginFrame := by
  obtain ⟨distinct, marked, listed, busy, idle, resting⟩ := sound
  have aged : (e.requests.map fun q => { q with eligible := true }).Pairwise
      fun p q => Job.sameRequester p.job q.job = false := List.pairwise_map.mpr distinct
  have marks (o : Option Operation) (job : o.map Operation.job = e.operation.map Operation.job) :
      (∀ q ∈ e.requests.map fun q => { q with eligible := true }, q.inFlight = true →
        o.map Operation.job = some q.job) ∧
      ∀ op, o = some op → ∃ q ∈ e.requests.map (fun q => { q with eligible := true }), q.inFlight = true ∧
        q.job = op.job := by
    constructor
    · intro q mapped flying
      obtain ⟨p, member, rfl⟩ := List.mem_map.mp mapped
      exact job.trans (marked p member flying)
    · rintro op rfl
      cases flown : e.operation with
      | none => simp [flown] at job
      | some x =>
        obtain ⟨q, member, flying, named⟩ := listed x flown
        exact ⟨_, List.mem_map_of_mem member, flying, by simpa [flown, ← named, eq_comm] using job⟩
  unfold Engine.beginFrame
  dsimp only
  by_cases rests : e.toRest = true
  · obtain ⟨none, -⟩ := resting rests
    rw [if_pos rests]
    exact ⟨aged, (marks _ rfl).1, (marks _ rfl).2, by simp [none], by simp, nofun⟩
  · rw [if_neg rests]
    have ran : (e.operation.map Operation.runRound).map Operation.job = e.operation.map Operation.job := by
      simp [Function.comp_def, runRound_job]
    split
    next phase => exact ⟨aged, (marks _ rfl).1, (marks _ rfl).2, busy, idle, resting⟩
    next phase =>
      refine ⟨aged, (marks _ rfl).1, (marks _ rfl).2, fun flying => ?_, by simp, fun rests' => absurd rests' rests⟩
      simpa [phase] using busy flying
    all_goals
      next phase =>
        have flown := (idle (by simp [phase])).resolve_right rests
        exact ⟨aged, (marks _ ran).1, (marks _ ran).2, fun _ => .inr rfl, fun _ => .inl (by simpa using flown),
          fun rests' => absurd rests' rests⟩

/-- The request of a completed operation leaves the list, and the engine rests (R87, R93). -/
theorem finish_sound {e : Engine} {op : Operation} (sound : EngineSound e) (flown : e.operation = some op) :
    EngineSound { e with
      requests := e.requests.filter fun q => q.job != op.job, operation := none, toRest := true } := by
  obtain ⟨distinct, marked, -, busy, -, -⟩ := sound
  refine ⟨distinct.filter _, fun q kept flying => ?_, nofun, nofun, fun _ => .inr rfl, fun _ => ⟨rfl, fun phase => ?_⟩⟩
  · obtain ⟨member, other⟩ := List.mem_filter.mp kept
    have job := marked q member flying
    simp [flown] at job
    simp [job] at other
  · have phase : e.phase = .idle := phase
    simpa [phase] using busy (by simp [flown])

end Sys2Proof.Machine
end

section
/-! SUPPORT. What the shared operations leave alone, field by field and read by read. -/

namespace Sys2Proof.Machine

/-! ### post -/

section
variable (kind : EventKind) (slot : Option SlotId) (context : Option ContextId) (index : Option RecordId) (detail : Byte) (s : State)

@[simp] theorem post_highway : (post kind slot context index detail s).highway = s.highway := by rw [post_eq]
@[simp] theorem post_slots : (post kind slot context index detail s).slots = s.slots := by rw [post_eq]
@[simp] theorem post_directory : (post kind slot context index detail s).directory = s.directory := by rw [post_eq]
@[simp] theorem post_classes : (post kind slot context index detail s).classes = s.classes := by rw [post_eq]
@[simp] theorem post_visitors : (post kind slot context index detail s).visitors = s.visitors := by rw [post_eq]
@[simp] theorem post_timers : (post kind slot context index detail s).timers = s.timers := by rw [post_eq]
@[simp] theorem post_engine : (post kind slot context index detail s).engine = s.engine := by rw [post_eq]
@[simp] theorem post_sites : (post kind slot context index detail s).sites = s.sites := by rw [post_eq]
@[simp] theorem post_contexts : (post kind slot context index detail s).contexts = s.contexts := by rw [post_eq]
@[simp] theorem post_tones : (post kind slot context index detail s).tones = s.tones := by rw [post_eq]
@[simp] theorem post_clock : (post kind slot context index detail s).clock = s.clock := by rw [post_eq]
@[simp] theorem post_records : (post kind slot context index detail s).records = s.records := by rw [post_eq]
@[simp] theorem post_port : (post kind slot context index detail s).port = s.port := by rw [post_eq]
@[simp] theorem post_pending : (post kind slot context index detail s).pending = s.pending := by rw [post_eq]
@[simp] theorem slot_post (j : SlotId) : (post kind slot context index detail s).slot j = s.slot j := by simp [State.slot]
@[simp] theorem record_post (j : RecordId) : (post kind slot context index detail s).record j = s.record j := by simp [State.record]
@[simp] theorem context_post (j : ContextId) : (post kind slot context index detail s).context j = s.context j := by simp [State.context]
@[simp] theorem classRecord_post (j : ClassId) : (post kind slot context index detail s).classRecord j = s.classRecord j := by simp [State.classRecord]

end

/-! ### storeRecord -/

section
variable (r : CallRecord) (s : State)

@[simp] theorem storeRecord_highway : (storeRecord r s).highway = s.highway := by rw [storeRecord_eq r rfl]
@[simp] theorem storeRecord_slots : (storeRecord r s).slots = s.slots := by rw [storeRecord_eq r rfl]
@[simp] theorem storeRecord_directory : (storeRecord r s).directory = s.directory := by rw [storeRecord_eq r rfl]
@[simp] theorem storeRecord_classes : (storeRecord r s).classes = s.classes := by rw [storeRecord_eq r rfl]
@[simp] theorem storeRecord_visitors : (storeRecord r s).visitors = s.visitors := by rw [storeRecord_eq r rfl]
@[simp] theorem storeRecord_timers : (storeRecord r s).timers = s.timers := by rw [storeRecord_eq r rfl]
@[simp] theorem storeRecord_engine : (storeRecord r s).engine = s.engine := by rw [storeRecord_eq r rfl]
@[simp] theorem storeRecord_sites : (storeRecord r s).sites = s.sites := by rw [storeRecord_eq r rfl]
@[simp] theorem storeRecord_contexts : (storeRecord r s).contexts = s.contexts := by rw [storeRecord_eq r rfl]
@[simp] theorem storeRecord_tones : (storeRecord r s).tones = s.tones := by rw [storeRecord_eq r rfl]
@[simp] theorem storeRecord_clock : (storeRecord r s).clock = s.clock := by rw [storeRecord_eq r rfl]
@[simp] theorem storeRecord_events : (storeRecord r s).events = s.events := by rw [storeRecord_eq r rfl]
@[simp] theorem storeRecord_port : (storeRecord r s).port = s.port := by rw [storeRecord_eq r rfl]
@[simp] theorem storeRecord_pending : (storeRecord r s).pending = s.pending := by rw [storeRecord_eq r rfl]
@[simp] theorem slot_storeRecord (j : SlotId) : (storeRecord r s).slot j = s.slot j := by simp [State.slot]
@[simp] theorem record_storeRecord (j : RecordId) : (storeRecord r s).record j = s.record j := by simp [State.record]
@[simp] theorem context_storeRecord (j : ContextId) : (storeRecord r s).context j = s.context j := by simp [State.context]
@[simp] theorem classRecord_storeRecord (j : ClassId) : (storeRecord r s).classRecord j = s.classRecord j := by simp [State.classRecord]

end

/-- A message on a transmit queue changes slots and events alone. -/
theorem enqueue_eq (i : SlotId) (m : HandsetMessage) (s : State) :
    enqueue i m s = { s with slots := (enqueue i m s).slots, events := (enqueue i m s).events } := by
  obtain ⟨-, same⟩ | ⟨-, -, joined⟩ | ⟨-, -, lost⟩ := enqueue_cases i m s
  · rw [same]
  · rw [joined]
    rfl
  · rw [lost, post_eq]

/-- A tone function's request changes slots alone. -/
theorem requestFunction_eq (f : ToneFunction) (i : SlotId) (s : State) :
    requestFunction f i s = { s with slots := (requestFunction f i s).slots } := by
  obtain same | ⟨d, x, -, -, -, asked⟩ := requestFunction_cases f i s
  · rw [same]
  · rw [asked]
    rfl

/-! ### enqueue -/

section
variable (i : SlotId) (m : HandsetMessage) (s : State)

@[simp] theorem enqueue_highway : (enqueue i m s).highway = s.highway := by rw [enqueue_eq]
@[simp] theorem enqueue_directory : (enqueue i m s).directory = s.directory := by rw [enqueue_eq]
@[simp] theorem enqueue_classes : (enqueue i m s).classes = s.classes := by rw [enqueue_eq]
@[simp] theorem enqueue_visitors : (enqueue i m s).visitors = s.visitors := by rw [enqueue_eq]
@[simp] theorem enqueue_timers : (enqueue i m s).timers = s.timers := by rw [enqueue_eq]
@[simp] theorem enqueue_engine : (enqueue i m s).engine = s.engine := by rw [enqueue_eq]
@[simp] theorem enqueue_sites : (enqueue i m s).sites = s.sites := by rw [enqueue_eq]
@[simp] theorem enqueue_contexts : (enqueue i m s).contexts = s.contexts := by rw [enqueue_eq]
@[simp] theorem enqueue_tones : (enqueue i m s).tones = s.tones := by rw [enqueue_eq]
@[simp] theorem enqueue_clock : (enqueue i m s).clock = s.clock := by rw [enqueue_eq]
@[simp] theorem enqueue_records : (enqueue i m s).records = s.records := by rw [enqueue_eq]
@[simp] theorem enqueue_port : (enqueue i m s).port = s.port := by rw [enqueue_eq]
@[simp] theorem enqueue_pending : (enqueue i m s).pending = s.pending := by rw [enqueue_eq]
@[simp] theorem record_enqueue (j : RecordId) : (enqueue i m s).record j = s.record j := by simp [State.record]
@[simp] theorem context_enqueue (j : ContextId) : (enqueue i m s).context j = s.context j := by simp [State.context]
@[simp] theorem classRecord_enqueue (j : ClassId) : (enqueue i m s).classRecord j = s.classRecord j := by simp [State.classRecord]

end

/-! ### requestFunction -/

section
variable (f : ToneFunction) (i : SlotId) (s : State)

@[simp] theorem requestFunction_highway : (requestFunction f i s).highway = s.highway := by rw [requestFunction_eq]
@[simp] theorem requestFunction_directory : (requestFunction f i s).directory = s.directory := by rw [requestFunction_eq]
@[simp] theorem requestFunction_classes : (requestFunction f i s).classes = s.classes := by rw [requestFunction_eq]
@[simp] theorem requestFunction_visitors : (requestFunction f i s).visitors = s.visitors := by rw [requestFunction_eq]
@[simp] theorem requestFunction_timers : (requestFunction f i s).timers = s.timers := by rw [requestFunction_eq]
@[simp] theorem requestFunction_engine : (requestFunction f i s).engine = s.engine := by rw [requestFunction_eq]
@[simp] theorem requestFunction_sites : (requestFunction f i s).sites = s.sites := by rw [requestFunction_eq]
@[simp] theorem requestFunction_contexts : (requestFunction f i s).contexts = s.contexts := by rw [requestFunction_eq]
@[simp] theorem requestFunction_tones : (requestFunction f i s).tones = s.tones := by rw [requestFunction_eq]
@[simp] theorem requestFunction_clock : (requestFunction f i s).clock = s.clock := by rw [requestFunction_eq]
@[simp] theorem requestFunction_events : (requestFunction f i s).events = s.events := by rw [requestFunction_eq]
@[simp] theorem requestFunction_records : (requestFunction f i s).records = s.records := by rw [requestFunction_eq]
@[simp] theorem requestFunction_port : (requestFunction f i s).port = s.port := by rw [requestFunction_eq]
@[simp] theorem requestFunction_pending : (requestFunction f i s).pending = s.pending := by rw [requestFunction_eq]
@[simp] theorem record_requestFunction (j : RecordId) : (requestFunction f i s).record j = s.record j := by simp [State.record]
@[simp] theorem context_requestFunction (j : ContextId) : (requestFunction f i s).context j = s.context j := by simp [State.context]
@[simp] theorem classRecord_requestFunction (j : ClassId) : (requestFunction f i s).classRecord j = s.classRecord j := by simp [State.classRecord]

end

/-! ### withdraw -/

section
variable (p : Job → Bool) (s : State)

@[simp] theorem withdraw_highway : (withdraw p s).highway = s.highway := rfl
@[simp] theorem withdraw_slots : (withdraw p s).slots = s.slots := rfl
@[simp] theorem withdraw_directory : (withdraw p s).directory = s.directory := rfl
@[simp] theorem withdraw_classes : (withdraw p s).classes = s.classes := rfl
@[simp] theorem withdraw_visitors : (withdraw p s).visitors = s.visitors := rfl
@[simp] theorem withdraw_timers : (withdraw p s).timers = s.timers := rfl
@[simp] theorem withdraw_sites : (withdraw p s).sites = s.sites := rfl
@[simp] theorem withdraw_contexts : (withdraw p s).contexts = s.contexts := rfl
@[simp] theorem withdraw_tones : (withdraw p s).tones = s.tones := rfl
@[simp] theorem withdraw_clock : (withdraw p s).clock = s.clock := rfl
@[simp] theorem withdraw_events : (withdraw p s).events = s.events := rfl
@[simp] theorem withdraw_records : (withdraw p s).records = s.records := rfl
@[simp] theorem withdraw_port : (withdraw p s).port = s.port := rfl
@[simp] theorem withdraw_pending : (withdraw p s).pending = s.pending := rfl
@[simp] theorem slot_withdraw (j : SlotId) : (withdraw p s).slot j = s.slot j := by simp [State.slot]
@[simp] theorem record_withdraw (j : RecordId) : (withdraw p s).record j = s.record j := by simp [State.record]
@[simp] theorem context_withdraw (j : ContextId) : (withdraw p s).context j = s.context j := by simp [State.context]
@[simp] theorem classRecord_withdraw (j : ClassId) : (withdraw p s).classRecord j = s.classRecord j := by simp [State.classRecord]

end

/-! ### postJob -/

section
variable (q : Job) (s : State)

@[simp] theorem postJob_highway : (postJob q s).highway = s.highway := rfl
@[simp] theorem postJob_slots : (postJob q s).slots = s.slots := rfl
@[simp] theorem postJob_directory : (postJob q s).directory = s.directory := rfl
@[simp] theorem postJob_classes : (postJob q s).classes = s.classes := rfl
@[simp] theorem postJob_visitors : (postJob q s).visitors = s.visitors := rfl
@[simp] theorem postJob_timers : (postJob q s).timers = s.timers := rfl
@[simp] theorem postJob_sites : (postJob q s).sites = s.sites := rfl
@[simp] theorem postJob_contexts : (postJob q s).contexts = s.contexts := rfl
@[simp] theorem postJob_tones : (postJob q s).tones = s.tones := rfl
@[simp] theorem postJob_clock : (postJob q s).clock = s.clock := rfl
@[simp] theorem postJob_events : (postJob q s).events = s.events := rfl
@[simp] theorem postJob_records : (postJob q s).records = s.records := rfl
@[simp] theorem postJob_port : (postJob q s).port = s.port := rfl
@[simp] theorem postJob_pending : (postJob q s).pending = s.pending := rfl
@[simp] theorem slot_postJob (j : SlotId) : (postJob q s).slot j = s.slot j := by simp [State.slot]
@[simp] theorem record_postJob (j : RecordId) : (postJob q s).record j = s.record j := by simp [State.record]
@[simp] theorem context_postJob (j : ContextId) : (postJob q s).context j = s.context j := by simp [State.context]
@[simp] theorem classRecord_postJob (j : ClassId) : (postJob q s).classRecord j = s.classRecord j := by simp [State.classRecord]

end

/-! ### drawNonce -/

section
variable (s : State)

@[simp] theorem drawNonce_highway : (drawNonce s).highway = s.highway := withEngine_highway s _
@[simp] theorem drawNonce_slots : (drawNonce s).slots = s.slots := withEngine_slots s _
@[simp] theorem drawNonce_directory : (drawNonce s).directory = s.directory := withEngine_directory s _
@[simp] theorem drawNonce_classes : (drawNonce s).classes = s.classes := withEngine_classes s _
@[simp] theorem drawNonce_visitors : (drawNonce s).visitors = s.visitors := withEngine_visitors s _
@[simp] theorem drawNonce_timers : (drawNonce s).timers = s.timers := withEngine_timers s _
@[simp] theorem drawNonce_sites : (drawNonce s).sites = s.sites := withEngine_sites s _
@[simp] theorem drawNonce_contexts : (drawNonce s).contexts = s.contexts := withEngine_contexts s _
@[simp] theorem drawNonce_tones : (drawNonce s).tones = s.tones := withEngine_tones s _
@[simp] theorem drawNonce_clock : (drawNonce s).clock = s.clock := withEngine_clock s _
@[simp] theorem drawNonce_events : (drawNonce s).events = s.events := withEngine_events s _
@[simp] theorem drawNonce_records : (drawNonce s).records = s.records := withEngine_records s _
@[simp] theorem drawNonce_port : (drawNonce s).port = s.port := withEngine_port s _
@[simp] theorem drawNonce_pending : (drawNonce s).pending = s.pending := withEngine_pending s _
@[simp] theorem slot_drawNonce (j : SlotId) : (drawNonce s).slot j = s.slot j := slot_withEngine s _ j
@[simp] theorem record_drawNonce (j : RecordId) : (drawNonce s).record j = s.record j := record_withEngine s _ j
@[simp] theorem context_drawNonce (j : ContextId) : (drawNonce s).context j = s.context j := context_withEngine s _ j
@[simp] theorem classRecord_drawNonce (j : ClassId) : (drawNonce s).classRecord j = s.classRecord j := classRecord_withEngine s _ j

end

@[simp] theorem withdraw_engine (p : Job → Bool) (s : State) : (withdraw p s).engine = s.engine.withdraw p := rfl
@[simp] theorem postJob_engine (q : Job) (s : State) : (postJob q s).engine = s.engine.post q := rfl

/-- A post never touches the mask (R172). -/
@[simp] theorem post_mask (kind : EventKind) (slot : Option SlotId) (context : Option ContextId) (index : Option RecordId)
    (detail : Byte) (s : State) : (post kind slot context index detail s).events.mask = s.events.mask := by
  obtain ⟨-, h⟩ | ⟨-, -, h⟩ | ⟨-, -, h⟩ := post_cases kind slot context index detail s <;> rw [h]

end Sys2Proof.Machine
end

section
/-! SUPPORT. The shared operations (Ops.lean) as moves: slots, contexts, posts, messages, tones, engine list. -/

namespace Sys2Proof.Machine

open Sys2Proof.Safety

section
variable {L : Ledger} {s : State}

/-! ### Slots and contexts -/

theorem onSlot_moves {i : SlotId} {f : Slot → Slot} (quiet : (s.slot i).Quiet (f (s.slot i))) :
    Moves L s (onSlot i f s) := by
  refine .of (.slots (s.slots.set i (f (s.slot i))) fun j => ?_)
  change (s.slot j).Quiet ((onSlot i f s).slot j)
  rw [slot_onSlot]
  split
  next same => exact same ▸ quiet
  next => exact .refl _

theorem slots_moves {t : State} (same : t = { s with slots := t.slots }) (quiet : ∀ i, (s.slot i).Quiet (t.slot i)) :
    Moves L s t := by
  rw [same]
  exact .of (.slots t.slots quiet)

theorem contexts_moves {t : State} (same : t = { s with contexts := t.contexts })
    (quiet : ∀ c, Option.Rel Context.Quiet (s.context c) (t.context c)) : Moves L s t := by
  rw [same]
  exact .of (.contexts t.contexts quiet)

theorem quiet_rel_refl (o : Option Context) : Option.Rel Context.Quiet o o := by
  cases o
  · exact .none
  · exact .some (.refl _)

theorem quiet_rel_map {o : Option Context} {f : Context → Context} (quiet : ∀ x, o = some x → x.Quiet (f x)) :
    Option.Rel Context.Quiet o (o.map f) := by
  cases o
  · exact .none
  · exact .some (quiet _ rfl)

theorem onContext_moves {c : ContextId} {f : Context → Context} (quiet : ∀ x, s.context c = some x → x.Quiet (f x)) :
    Moves L s (onContext c f s) := by
  refine contexts_moves rfl fun d => ?_
  rw [context_onContext]
  split
  next same => exact same ▸ quiet_rel_map quiet
  next => exact quiet_rel_refl _

theorem withContext_moves {c : ContextId} {x y : Context} (held : s.context c = some x) (quiet : x.Quiet y) :
    Moves L s (s.withContext c (some y)) := by
  have same : s.withContext c (some y) = onContext c (fun _ => y) s := by rw [onContext, held]; rfl
  rw [same]
  exact onContext_moves fun z held' => Option.some.inj (held.symm.trans held') ▸ quiet

/-- A change of the descrambler alone is quiet. -/
theorem onDescrambler_moves (c : ContextId) (f : Descrambler → Descrambler) : Moves L s (onDescrambler c f s) :=
  onContext_moves fun x _ => { Context.Quiet.refl x with }

/-! ### Events, messages, tones, call records -/

theorem post_moves (kind : EventKind) (slot : Option SlotId) (context : Option ContextId) (index : Option RecordId)
    (detail : Byte) : Moves L s (post kind slot context index detail s) := by
  obtain ⟨-, same⟩ | ⟨-, room, joined⟩ | ⟨-, full, marked⟩ := post_cases kind slot context index detail s
  · rw [same]
  · rw [joined]
    exact .of (.events _ ⟨fun _ => by simpa [Config.eventQueueSize] using room, fun _ _ => by simp⟩)
  · rw [marked]
    refine .of (.events _ ⟨id, fun _ _ => ?_⟩)
    exact List.ne_nil_of_length_pos (Nat.lt_of_lt_of_le (by decide) full)

theorem enqueue_moves (i : SlotId) (m : HandsetMessage) : Moves L s (enqueue i m s) := by
  obtain ⟨-, same⟩ | ⟨-, room, joined⟩ | ⟨-, -, lost⟩ := enqueue_cases i m s
  · rw [same]
  · rw [joined]
    exact onSlot_moves { Slot.Quiet.refl _ with queue := fun _ => by simpa [Config.txQueueSize] using room }
  · rw [lost]
    exact post_moves ..

theorem requestTone_quiet (r : Slot) (d : ToneId) (x : ToneDescriptor) : r.Quiet (r.requestTone d x).2 := by
  obtain ⟨t, started, -⟩ | waits | replaced | dropped := requestTone_cases r d x
  · rw [started]
    exact { Slot.Quiet.refl r with }
  · rw [waits]
    exact { Slot.Quiet.refl r with }
  · rw [replaced]
    exact { Slot.Quiet.refl r with }
  · rw [dropped]
    exact .refl r

theorem requestFunction_moves (f : ToneFunction) (i : SlotId) : Moves L s (requestFunction f i s) := by
  obtain same | ⟨d, x, -, -, -, asked⟩ := requestFunction_cases f i s
  · rw [same]
  · rw [asked]
    exact onSlot_moves (f := fun _ => ((s.slot i).requestTone d x).2) (requestTone_quiet ..)

theorem enqueueAdmitted_moves (i : SlotId) : Moves L s (enqueueAdmitted i s) := by
  unfold enqueueAdmitted
  split
  · exact enqueue_moves ..
  · exact .refl

theorem storeRecord_moves (r : CallRecord) : Moves L s (storeRecord r s) := by
  obtain ⟨room, joined⟩ | ⟨full, counted⟩ := storeRecord_cases r s
  · rw [joined]
    exact .of (.records _ ⟨fun _ => by simpa [Config.recordQueueSize] using room, fun _ _ => by simp⟩)
  · rw [counted]
    refine .of (.records _ ⟨id, fun _ _ => ?_⟩)
    exact List.ne_nil_of_length_pos (Nat.lt_of_lt_of_le (by decide) full)

/-! ### Engine list and nonce source -/

theorem withdraw_moves (p : Job → Bool) : Moves L s (withdraw p s) := .of (.engine _ (withdraw_sound p))

theorem postJob_moves (j : Job) : Moves L s (postJob j s) := .of (.engine _ (post_sound j))

theorem drawNonce_moves : Moves L s (drawNonce s) := .of (.engine _ (engine_sound_congr rfl rfl rfl rfl))

end

/-! ### A free -/

theorem causeByte_eq (x : Context) : causeByte x = (match x.cause with
    | none => 0xFF
    | some k => byte k.code) := by
  unfold causeByte
  cases x.cause <;> rfl

/-- Steps 1 to 4 and 6 of a free leave what `afterFree` says (R110). -/
theorem recordFree_withContext (c : ContextId) (x : Context) (s : State) :
    (recordFree c x s).withContext c none = afterFree c x x.cause s := by
  rw [recordFree_eq]
  unfold afterFree callRecord Config.framesPerSecond
  dsimp only
  rw [post_eq _ _ _ _ _ (storeRecord _ s), storeRecord_eq _ (s := s) (t := s) rfl]
  refine State.same rfl rfl rfl rfl rfl rfl rfl rfl rfl rfl rfl ?_ rfl rfl rfl
  change (post .contextClosed (some x.tie) (some c) (some x.index) (causeByte x) s).events =
    (post .contextClosed (some x.tie) (some c) (some x.index) _
      { s with records := _ }).events
  rw [causeByte_eq]
  exact post_events_congr _ _ _ _ _ rfl rfl

theorem enqueue_withContext (i : SlotId) (m : HandsetMessage) (c : ContextId) (o : Option Context) (s : State) :
    enqueue i m (s.withContext c o) = (enqueue i m s).withContext c o := by
  unfold enqueue post onSlot
  simp only [slot_withContext]
  repeat' split
  all_goals first | rfl | contradiction

/-- The function's tone is asked for: its entry names a loaded descriptor, and the slot is EXTENSION (R164). -/
theorem requestFunction_asked {f : ToneFunction} {i : SlotId} {s : State} {d : ToneId} {x : ToneDescriptor}
    (entry : s.tones.functions.entry f = some d) (loaded : s.tones.descriptors[d] = some x)
    (kind : (s.slot i).kind = .extension) :
    requestFunction f i s = s.withSlot i ((s.slot i).requestTone d x).2 := by
  simp [requestFunction, entry, loaded, kind, onSlot]

/-- Nothing is asked for otherwise (R164). -/
theorem requestFunction_silent {f : ToneFunction} {i : SlotId} {s : State}
    (silent : ∀ d x, s.tones.functions.entry f = some d → s.tones.descriptors[d] = some x →
      (s.slot i).kind ≠ .extension) : requestFunction f i s = s := by
  obtain same | ⟨d, x, entry, loaded, kind, -⟩ := requestFunction_cases f i s
  · exact same
  · exact absurd kind (silent d x entry loaded)

theorem requestFunction_withContext (f : ToneFunction) (i : SlotId) (c : ContextId) (o : Option Context) (s : State) :
    requestFunction f i (s.withContext c o) = (requestFunction f i s).withContext c o := by
  by_cases asked : ∃ d x, s.tones.functions.entry f = some d ∧ s.tones.descriptors[d] = some x ∧
      (s.slot i).kind = .extension
  · obtain ⟨d, x, entry, loaded, kind⟩ := asked
    rw [requestFunction_asked entry loaded kind, requestFunction_asked (s := s.withContext c o) entry loaded kind]
    rfl
  · have silent : ∀ d x, s.tones.functions.entry f = some d → s.tones.descriptors[d] = some x →
        (s.slot i).kind ≠ .extension := fun d x entry loaded kind => asked ⟨d, x, entry, loaded, kind⟩
    rw [requestFunction_silent silent, requestFunction_silent (s := s.withContext c o) silent]

theorem privacyOff_withContext (x : Context) (c : ContextId) (o : Option Context) (s : State) :
    privacyOff x (s.withContext c o) = (privacyOff x s).withContext c o := by
  unfold privacyOff
  split
  · rw [enqueue_withContext, requestFunction_withContext]
  · rfl

/-- A free is `afterFree`, then PRIVACY-OFF when it is due (R110). -/
theorem freeContext_eq {c : ContextId} {x : Context} {s : State} (held : s.context c = some x) :
    freeContext c s = privacyOff x (afterFree c x x.cause s) := by
  rw [← recordFree_withContext, privacyOff_withContext]
  simp only [freeContext, held]

theorem freeQuietly_eq {c : ContextId} {x : Context} {s : State} (held : s.context c = some x) :
    freeQuietly c s = afterFree c x x.cause s := by
  rw [← recordFree_withContext]
  simp only [freeQuietly, held]

/-- The record is stored and the event posted beside the free itself. -/
theorem afterFree_eq (c : ContextId) (x : Context) (s : State) : afterFree c x x.cause s =
    post .contextClosed (some x.tie) (some c) (some x.index) (causeByte x)
      (storeRecord (callRecord x s) ((unbind c x s).withContext c none)) := by
  rw [← recordFree_withContext, recordFree_eq, post_eq _ _ _ _ _ (storeRecord _ ((unbind c x s).withContext c none)),
    storeRecord_eq _ (s := (unbind c x s).withContext c none) (t := s) rfl]
  exact State.same rfl rfl rfl rfl rfl rfl rfl rfl rfl rfl rfl (post_events_congr _ _ _ _ _ rfl rfl) rfl rfl rfl

section
variable {L : Ledger} {s : State}

theorem afterFree_moves {c : ContextId} {x : Context} (held : s.context c = some x) :
    Moves L s (afterFree c x x.cause s) := by
  rw [afterFree_eq]
  exact (Moves.of (.free c x held)).trans ((storeRecord_moves _).trans (post_moves ..))

theorem privacyOff_moves (x : Context) : Moves L s (privacyOff x s) := by
  unfold privacyOff
  split
  · exact (enqueue_moves ..).trans (requestFunction_moves ..)
  · exact .refl

theorem freeContext_moves (c : ContextId) : Moves L s (freeContext c s) := by
  cases held : s.context c with
  | none =>
    simp only [freeContext, held]
    exact .refl
  | some x =>
    rw [freeContext_eq held]
    exact (afterFree_moves held).trans (privacyOff_moves x)

theorem freeQuietly_moves (c : ContextId) : Moves L s (freeQuietly c s) := by
  cases held : s.context c with
  | none =>
    simp only [freeQuietly, held]
    exact .refl
  | some x =>
    rw [freeQuietly_eq held]
    exact afterFree_moves held

/-! ### A close -/

theorem haltFor_quiet (x : Context) (cause : CloseCause) : x.Quiet (x.haltFor cause) :=
  { Context.Quiet.refl x with }

theorem assignBlock_quiet_fields (x : Context) : x.assignBlock.tie = x.tie ∧ x.assignBlock.ext = x.ext ∧
    x.assignBlock.index = x.index ∧ x.assignBlock.phase = x.phase := by
  unfold Context.assignBlock
  dsimp only
  split <;> exact ⟨rfl, rfl, rfl, rfl⟩

theorem startClearing_quiet (x : Context) : x.Quiet x.startClearing := by
  obtain ⟨tie, ext, index, -⟩ := assignBlock_quiet_fields x
  unfold Context.startClearing
  dsimp only
  split
  · exact ⟨tie, ext, index, fun _ => ⟨fun _ => rfl, fun _ => rfl⟩⟩
  · exact ⟨rfl, rfl, rfl, fun _ => ⟨fun _ => rfl, fun _ => rfl⟩⟩

theorem Context.Quiet.trans {x y z : Context} (a : x.Quiet y) (b : y.Quiet z) : x.Quiet z :=
  ⟨b.tie.trans a.tie, b.ext.trans a.ext, b.index.trans a.index, fun settled =>
    ⟨(b.settled (a.settled settled).1).1, (b.settled (a.settled settled).1).2 ∘ (a.settled settled).2⟩⟩

/-- What a close of an OPENING or OPEN context does: CLEAR blocks follow, or it is freed at once (R108). -/
theorem closeContext_cases (c : ContextId) (cause : CloseCause) (s : State) :
    ((∀ x, s.context c = some x → x.phase = .closing) ∧ closeContext c cause s = s) ∨
    ∃ x, s.context c = some x ∧ x.phase ≠ .closing ∧
      (x.scrambler.sending = true ∧ cause.silent = false ∧ closeContext c cause s =
        (withdraw (Job.isDeriveOf c) s).withContext c (some (x.haltFor cause).startClearing) ∨
      (x.scrambler.sending = false ∨ cause.silent = true) ∧ closeContext c cause s =
        freeContext c ((withdraw (Job.isDeriveOf c) s).withContext c (some (x.haltFor cause)))) := by
  cases held : s.context c with
  | none => exact .inl ⟨fun x found => (Option.some_ne_none x found.symm).elim, by simp only [closeContext, held]⟩
  | some x =>
    by_cases phase : x.phase = .closing
    · refine .inl ⟨fun y same => Option.some.inj same ▸ phase, ?_⟩
      simp only [closeContext, held, phase, if_true]
    · refine .inr ⟨x, rfl, phase, ?_⟩
      simp only [closeContext, held, phase, if_false]
      split
      next clears =>
        obtain ⟨sends, loud⟩ : x.scrambler.sending = true ∧ cause.silent = false := by simpa using clears
        exact .inl ⟨sends, loud, rfl⟩
      next frees =>
        refine .inr ⟨?_, rfl⟩
        cases sends : x.scrambler.sending
        · exact .inl rfl
        · exact .inr (by simpa [sends] using frees)

theorem closeContext_moves (c : ContextId) (cause : CloseCause) : Moves L s (closeContext c cause s) := by
  obtain ⟨-, same⟩ | ⟨x, held, -, ⟨-, -, clears⟩ | ⟨-, frees⟩⟩ := closeContext_cases c cause s
  · rw [same]
  · rw [clears]
    exact (withdraw_moves (Job.isDeriveOf c)).trans (withContext_moves ((context_withdraw ..).trans held) ((haltFor_quiet x cause).trans (startClearing_quiet _)))
  · rw [frees]
    exact (withdraw_moves (Job.isDeriveOf c)).trans
      ((withContext_moves ((context_withdraw ..).trans held) (haltFor_quiet x cause)).trans (freeContext_moves c))

theorem sweepContext_moves (cause : CloseCause) (c : ContextId) : Moves L s (sweepContext cause c s) := by
  unfold sweepContext
  repeat' split
  · exact .refl
  · exact freeQuietly_moves c
  · exact freeContext_moves c
  · exact closeContext_moves c cause

end

end Sys2Proof.Machine
end

section
/-! SUPPORT. What the closing and freeing of contexts leaves alone (R108, R110): the bindings, queues and players of slots,
the contexts, the engine's list, the events and the call records may change, and each in one direction only. -/

namespace Sys2Proof.Machine

open Sys2Proof.Safety

/-! ### A free at once -/

theorem storeRecord_withContext (r : CallRecord) (c : ContextId) (o : Option Context) (s : State) :
    storeRecord r (s.withContext c o) = (storeRecord r s).withContext c o := by
  rw [storeRecord_eq r (s := s.withContext c o) (t := s) rfl]
  exact State.same (by simp) (by simp) (by simp) (by simp) (by simp) (by simp) (by simp) (by simp) (by simp) (by simp)
    (by simp) (by simp) rfl (by simp) (by simp)

theorem post_withContext (kind : EventKind) (slot : Option SlotId) (context : Option ContextId)
    (index : Option RecordId) (detail : Byte) (c : ContextId) (o : Option Context) (s : State) :
    post kind slot context index detail (s.withContext c o) = (post kind slot context index detail s).withContext c o := by
  rw [post_eq _ _ _ _ _ (s.withContext c o)]
  exact State.same (by simp) (by simp) (by simp) (by simp) (by simp) (by simp) (by simp) (by simp) (by simp) (by simp)
    (by simp) (post_events_congr _ _ _ _ _ rfl rfl) (by simp) (by simp) (by simp)

/-- A free does not read the context table. -/
theorem afterFree_withContext (c : ContextId) (x : Context) (o : Option Context) (s : State) :
    afterFree c x x.cause (s.withContext c o) = afterFree c x x.cause s := by
  have unbound : (unbind c x (s.withContext c o)).withContext c none = (unbind c x s).withContext c none := by
    change ((unbind c x s).withContext c o).withContext c none = _
    rw [withContext_withContext]
  rw [afterFree_eq, afterFree_eq, unbound]
  rfl

/-- A context freed at once by a close: its record carries the cause (R108, R110). -/
theorem freeContext_haltFor (c : ContextId) (x : Context) (cause : CloseCause) (s : State) :
    freeContext c (s.withContext c (some (x.haltFor cause))) =
      privacyOff (x.haltFor cause) (afterFree c x (some cause) s) := by
  rw [freeContext_eq (context_withContext_self ..), afterFree_withContext]
  rfl

/-! ### What may change -/

/-- What closes leave of a context that they do not free. -/
structure Context.Follows (x y : Context) : Prop where
  elapsed : y.elapsed = x.elapsed
  rekeyElapsed : y.rekeyElapsed = x.rekeyElapsed
  offset : y.offset = x.offset
  phase : y.phase = x.phase ∨ y.phase = .closing
  same : y.phase = x.phase → y.descrambler = x.descrambler ∧ y.scrambler = x.scrambler

/-- What closes leave of a slot record. -/
structure Slot.Follows (r t : Slot) : Prop where
  rest : t = { r with
    boundContext := t.boundContext, partners := t.partners, txQueue := t.txQueue, tone := t.tone
    pendingTone := t.pendingTone }
  partners : t.partners.Sublist r.partners

/-- What closes leave of the state. -/
structure Closes (s t : State) : Prop where
  rest : t = { s with
    slots := t.slots, engine := t.engine, contexts := t.contexts, events := t.events, records := t.records }
  slot : ∀ j, (s.slot j).Follows (t.slot j)
  context : ∀ c y, t.context c = some y → ∃ x, s.context c = some x ∧ x.Follows y
  engine : t.engine = { s.engine with
    requests := t.engine.requests, operation := t.engine.operation, toRest := t.engine.toRest }
  mask : t.events.mask = s.events.mask
  posted : ∃ posted, t.events.queue = s.events.queue ++ posted ∧
    ∀ e ∈ posted, e.kind = .contextClosed ∨ e.kind = .txOverflow

theorem Context.Follows.refl (x : Context) : x.Follows x := ⟨rfl, rfl, rfl, .inl rfl, fun _ => ⟨rfl, rfl⟩⟩

theorem Context.Follows.trans {x y z : Context} (a : x.Follows y) (b : y.Follows z) : x.Follows z := by
  refine ⟨b.elapsed.trans a.elapsed, b.rekeyElapsed.trans a.rekeyElapsed, b.offset.trans a.offset, ?_, fun same => ?_⟩
  · obtain kept | closes := b.phase
    · exact a.phase.imp kept.trans kept.trans
    · exact .inr closes
  · have kept : y.phase = x.phase := by
      obtain kept | closing := a.phase
      · exact kept
      · obtain kept' | closing' := b.phase
        · exact kept'.symm.trans same
        · exact closing.trans (closing'.symm.trans same)
    obtain ⟨descrambler, scrambler⟩ := a.same kept
    obtain ⟨descrambler', scrambler'⟩ := b.same (same.trans kept.symm)
    exact ⟨descrambler'.trans descrambler, scrambler'.trans scrambler⟩

theorem Slot.Follows.refl (r : Slot) : r.Follows r := ⟨rfl, List.Sublist.refl _⟩

theorem Slot.Follows.trans {r t u : Slot} (a : r.Follows t) (b : t.Follows u) : r.Follows u := by
  refine ⟨?_, b.partners.trans a.partners⟩
  rw [b.rest, a.rest]

theorem Closes.refl (s : State) : Closes s s :=
  ⟨rfl, fun _ => .refl _, fun _ y held => ⟨y, held, .refl y⟩, rfl, rfl, [], by simp, nofun⟩

theorem Closes.trans {s t u : State} (a : Closes s t) (b : Closes t u) : Closes s u := by
  refine ⟨?_, fun j => (a.slot j).trans (b.slot j), fun c z held => ?_, ?_, b.mask.trans a.mask, ?_⟩
  · rw [b.rest, a.rest]
  · obtain ⟨y, held, follows⟩ := b.context c z held
    obtain ⟨x, held, follows'⟩ := a.context c y held
    exact ⟨x, held, follows'.trans follows⟩
  · rw [b.engine, a.engine]
  · obtain ⟨first, queue, kinds⟩ := a.posted
    obtain ⟨second, queue', kinds'⟩ := b.posted
    refine ⟨first ++ second, by rw [queue', queue, List.append_assoc], fun e member => ?_⟩
    exact (List.mem_append.mp member).elim (kinds e) (kinds' e)

theorem forEach_closes {α : Type} {f : α → State → State} (each : ∀ x s, Closes s (f x s)) (xs : List α) (s : State) :
    Closes s (forEach xs f s) :=
  forEach_keeps (P := Closes s) (fun x t h => h.trans (each x t)) xs s (.refl s)

section
variable {s : State}

/-! ### Each part of a close -/

theorem withdraw_closes (p : Job → Bool) : Closes s (withdraw p s) := { Closes.refl s with rest := rfl, engine := rfl }

theorem onSlot_closes {i : SlotId} {f : Slot → Slot} (follows : (s.slot i).Follows (f (s.slot i))) :
    Closes s (onSlot i f s) := by
  refine { Closes.refl s with rest := rfl, slot := fun j => ?_ }
  rw [slot_onSlot]
  split
  next same => exact same ▸ follows
  next => exact .refl _

theorem withContext_closes {c : ContextId} {x y : Context} (held : s.context c = some x) (follows : x.Follows y) :
    Closes s (s.withContext c (some y)) := by
  refine { Closes.refl s with rest := rfl, context := fun d z found => ?_ }
  rw [context_withContext] at found
  split at found
  next same =>
    obtain rfl := same
    obtain rfl := Option.some.inj found
    exact ⟨x, held, follows⟩
  next => exact ⟨z, found, .refl z⟩

theorem withContext_none_closes (c : ContextId) : Closes s (s.withContext c none) := by
  refine { Closes.refl s with rest := rfl, context := fun d z found => ?_ }
  rw [context_withContext] at found
  split at found
  · exact (Option.some_ne_none z found.symm).elim
  · exact ⟨z, found, .refl z⟩

/-- What a post adds to the queue: at most its own event. -/
theorem post_queue (kind : EventKind) (slot : Option SlotId) (context : Option ContextId) (index : Option RecordId)
    (detail : Byte) (s : State) : ∃ posted, (post kind slot context index detail s).events.queue =
      s.events.queue ++ posted ∧
      (posted = [] ∨ posted = [⟨kind, s.clock.reading, slot, context, index, detail⟩]) := by
  obtain ⟨-, h⟩ | ⟨-, -, h⟩ | ⟨-, -, h⟩ := post_cases kind slot context index detail s
  · exact ⟨[], by simp [h], .inl rfl⟩
  · exact ⟨_, by rw [h], .inr rfl⟩
  · exact ⟨[], by simp [h], .inl rfl⟩

theorem post_closes {kind : EventKind} (slot : Option SlotId) (context : Option ContextId) (index : Option RecordId)
    (detail : Byte) (closing : kind = .contextClosed ∨ kind = .txOverflow) :
    Closes s (post kind slot context index detail s) := by
  obtain ⟨posted, queue, own⟩ := post_queue kind slot context index detail s
  refine ⟨?_, fun j => ?_, fun c y held => ⟨y, by simpa using held, .refl y⟩, by simp, by simp, posted, queue, ?_⟩
  · rw [post_eq]
  · rw [slot_post]
    exact .refl _
  · rintro e member
    obtain rfl | rfl := own
    · exact (List.not_mem_nil member).elim
    · rw [List.mem_singleton.mp member]
      exact closing

theorem storeRecord_closes (r : CallRecord) : Closes s (storeRecord r s) := by
  refine ⟨?_, fun j => ?_, fun c y held => ⟨y, by simpa using held, .refl y⟩, by simp, by simp, [], by simp, nofun⟩
  · rw [storeRecord_eq r (s := s) rfl]
  · rw [slot_storeRecord]
    exact .refl _

theorem enqueue_closes (i : SlotId) (m : HandsetMessage) : Closes s (enqueue i m s) := by
  obtain ⟨-, same⟩ | ⟨-, -, joined⟩ | ⟨-, -, lost⟩ := enqueue_cases i m s
  · rw [same]
    exact .refl s
  · rw [joined]
    exact onSlot_closes ⟨rfl, List.Sublist.refl _⟩
  · rw [lost]
    exact post_closes _ _ _ _ (.inr rfl)

theorem requestTone_follows (r : Slot) (d : ToneId) (x : ToneDescriptor) : r.Follows (r.requestTone d x).2 := by
  obtain ⟨t, started, -⟩ | waits | replaced | dropped := requestTone_cases r d x
  · rw [started]
    exact ⟨rfl, List.Sublist.refl _⟩
  · rw [waits]
    exact ⟨rfl, List.Sublist.refl _⟩
  · rw [replaced]
    exact ⟨rfl, List.Sublist.refl _⟩
  · rw [dropped]
    exact .refl r

theorem requestFunction_closes (f : ToneFunction) (i : SlotId) : Closes s (requestFunction f i s) := by
  obtain same | ⟨d, x, -, -, -, asked⟩ := requestFunction_cases f i s
  · rw [same]
    exact .refl s
  · rw [asked]
    exact onSlot_closes (f := fun _ => ((s.slot i).requestTone d x).2) (requestTone_follows ..)

theorem unbind_closes (c : ContextId) (x : Context) : Closes s (unbind c x s) := by
  refine (onSlot_closes ?_).trans (onSlot_closes ?_)
  · exact ⟨rfl, List.Sublist.refl _⟩
  · exact ⟨rfl, List.filter_sublist⟩

theorem afterFree_closes (c : ContextId) (x : Context) (cause : Option CloseCause) :
    Closes s (afterFree c x cause s) := by
  change Closes s (afterFree c { x with cause := cause } ({ x with cause := cause } : Context).cause s)
  rw [afterFree_eq]
  exact (unbind_closes c _).trans ((withContext_none_closes c).trans
    ((storeRecord_closes _).trans (post_closes _ _ _ _ (.inl rfl))))

theorem privacyOff_closes (x : Context) : Closes s (privacyOff x s) := by
  unfold privacyOff
  split
  · exact (enqueue_closes ..).trans (requestFunction_closes ..)
  · exact .refl s

theorem freeContext_closes (c : ContextId) : Closes s (freeContext c s) := by
  cases held : s.context c with
  | none =>
    simp only [freeContext, held]
    exact .refl s
  | some x =>
    rw [freeContext_eq held]
    exact (afterFree_closes c x _).trans (privacyOff_closes x)

theorem freeQuietly_closes (c : ContextId) : Closes s (freeQuietly c s) := by
  cases held : s.context c with
  | none =>
    simp only [freeQuietly, held]
    exact .refl s
  | some x =>
    rw [freeQuietly_eq held]
    exact afterFree_closes c x _

theorem assignBlock_elapsed (x : Context) : x.assignBlock.elapsed = x.elapsed ∧
    x.assignBlock.rekeyElapsed = x.rekeyElapsed ∧ x.assignBlock.offset = x.offset := by
  unfold Context.assignBlock
  dsimp only
  split <;> exact ⟨rfl, rfl, rfl⟩

theorem startClearing_follows {x : Context} (phase : x.phase ≠ .closing) (cause : CloseCause) :
    x.Follows (x.haltFor cause).startClearing := by
  obtain ⟨elapsed, rekeyElapsed, offset⟩ := assignBlock_elapsed (x.haltFor cause)
  unfold Context.startClearing
  dsimp only
  split
  · exact ⟨elapsed, rekeyElapsed, offset, .inr rfl, fun same => absurd same.symm phase⟩
  · exact ⟨rfl, rfl, rfl, .inr rfl, fun same => absurd same.symm phase⟩

theorem closeContext_closes (c : ContextId) (cause : CloseCause) : Closes s (closeContext c cause s) := by
  obtain ⟨-, same⟩ | ⟨x, held, phase, ⟨-, -, clears⟩ | ⟨-, frees⟩⟩ := closeContext_cases c cause s
  · rw [same]
    exact .refl s
  · rw [clears]
    exact (withdraw_closes _).trans
      (withContext_closes ((context_withdraw ..).trans held) (startClearing_follows phase cause))
  · rw [frees, freeContext_haltFor]
    exact (withdraw_closes _).trans ((afterFree_closes c x _).trans (privacyOff_closes _))

theorem sweepContext_closes (cause : CloseCause) (c : ContextId) : Closes s (sweepContext cause c s) := by
  unfold sweepContext
  repeat' split
  · exact .refl s
  · exact freeQuietly_closes c
  · exact freeContext_closes c
  · exact closeContext_closes c cause

theorem markGone_closes (c : ContextId) : Closes s (markGone c s) := by
  unfold markGone onContext
  cases held : s.context c with
  | none => exact withContext_none_closes c
  | some x => exact withContext_closes held { Context.Follows.refl x with }

/-! ### How a context ends -/

/-- A context is FREE or in CLOSING. -/
def Ended (c : ContextId) (s : State) : Prop := ∀ x, s.context c = some x → x.phase = .closing

theorem ended_of_closes {c : ContextId} {t : State} (closes : Closes s t) (ended : Ended c s) : Ended c t := by
  intro y held
  obtain ⟨x, held', follows⟩ := closes.context c y held
  exact follows.phase.elim (fun same => same.trans (ended x held')) id

theorem afterFree_context (c : ContextId) (x : Context) (cause : Option CloseCause) (s : State) :
    (afterFree c x cause s).context c = none := context_withContext_self ..

theorem privacyOff_context (x : Context) (c : ContextId) (s : State) :
    (privacyOff x s).context c = s.context c := by
  unfold privacyOff
  split <;> simp

theorem startClearing_phase (x : Context) : x.startClearing.phase = .closing := by
  unfold Context.startClearing
  rfl

/-- A close leaves its context FREE or in CLOSING (R108). -/
theorem closeContext_ended (c : ContextId) (cause : CloseCause) : Ended c (closeContext c cause s) := by
  intro y held
  obtain ⟨closing, same⟩ | ⟨x, -, -, ⟨-, -, clears⟩ | ⟨-, frees⟩⟩ := closeContext_cases c cause s
  · exact closing y (same ▸ held)
  · rw [clears, context_withContext_self] at held
    exact Option.some.inj held ▸ startClearing_phase _
  · rw [frees, freeContext_haltFor, privacyOff_context, afterFree_context] at held
    exact (Option.some_ne_none y held.symm).elim

/-- Closes of several contexts in turn leave each of them FREE or in CLOSING. -/
theorem forEach_closeContext_ended (cause : CloseCause) (cs : List ContextId) {c : ContextId} (member : c ∈ cs) :
    Ended c (forEach cs (fun c => closeContext c cause) s) := by
  induction cs generalizing s with
  | nil => exact (List.not_mem_nil member).elim
  | cons d rest ih =>
    rw [forEach_cons]
    obtain rfl | later := List.mem_cons.mp member
    · exact ended_of_closes (forEach_closes (fun d _ => closeContext_closes d cause) rest _)
        (closeContext_ended c cause)
    · exact ih later

end

end Sys2Proof.Machine
end

section
/-! SUPPORT. The sign-off (R75): what it leaves of the slots, the directory, the visitor count and the contexts. -/

namespace Sys2Proof.Machine

open Sys2Proof.Safety

/-! ### Release of an admission -/

theorem releaseAdmission_congr {r t : Slot} (index : r.boundIndex = t.boundIndex) (visitor : r.visitor = t.visitor)
    (s : State) : releaseAdmission r s = releaseAdmission t s := by
  rw [releaseAdmission, releaseAdmission, index, visitor]

/-- The directory and the visitor count alone may change. -/
theorem releaseAdmission_eq (r : Slot) (s : State) : releaseAdmission r s =
    { s with directory := (releaseAdmission r s).directory, visitors := (releaseAdmission r s).visitors } := by
  unfold releaseAdmission
  repeat' split
  all_goals rfl

@[simp] theorem slot_releaseAdmission (r : Slot) (s : State) (j : SlotId) :
    (releaseAdmission r s).slot j = s.slot j := by
  rw [releaseAdmission_eq]
  rfl

@[simp] theorem context_releaseAdmission (r : Slot) (s : State) (c : ContextId) :
    (releaseAdmission r s).context c = s.context c := by
  rw [releaseAdmission_eq]
  rfl

/-- The record of the admission loses its admitted slot. -/
theorem record_releaseAdmission (r : Slot) (s : State) (q : RecordId) : (releaseAdmission r s).record q =
    if r.boundIndex = some q then (s.record q).map fun d => { d with admittedSlot := none } else s.record q := by
  unfold releaseAdmission
  split
  next x bound =>
    rw [record_onRecord]
    by_cases same : x = q
    · simp [bound, same]
    · simp [bound, same]
  next bound =>
    simp only [bound, reduceCtorEq, if_false]
    split <;> rfl

/-- The visitor count falls with a visitor's admission, and nothing else of the visitors changes. -/
theorem visitors_releaseAdmission (r : Slot) (s : State) : (releaseAdmission r s).visitors =
    { s.visitors with count :=
      if r.boundIndex = none ∧ r.visitor = true then s.visitors.count - 1 else s.visitors.count } := by
  unfold releaseAdmission
  split
  next x bound => simp [bound, onRecord]
  next bound => split <;> simp_all

/-! ### The parts of a sign-off -/

/-- Steps 1 and 2 of a sign-off: the partners of slot `i` are marked, then closed (R75). -/
def partCalls (i : SlotId) (s : State) : State :=
  forEach (s.slot i).partners (fun c => closeContext c .signOff) (forEach (s.slot i).partners markGone s)

/-- Step 3 of a sign-off: the tones and the messages not begun are dropped (R50, R75). -/
def quietSlot (i : SlotId) (s : State) : State := s |> onSlot i Slot.dropTones |> onSlot i Slot.dropUnbegun

theorem signOffSlot_not_admitted {cause : SignOffCause} {i : SlotId} {s : State}
    (out : (s.slot i).isAdmitted = false) : signOffSlot cause i s = s := by
  simp [signOffSlot, out]

theorem signOffSlot_admitted {cause : SignOffCause} {i : SlotId} {s : State} (admitted : (s.slot i).isAdmitted = true) :
    signOffSlot cause i s = post .signedOff (some i) none (s.slot i).boundIndex cause.code
      (onSlot i Slot.lockOut (releaseAdmission (s.slot i) (quietSlot i (partCalls i s)))) := by
  simp [signOffSlot, admitted, quietSlot, partCalls]

section
variable {s : State} {i : SlotId}

theorem partCalls_closes (i : SlotId) (s : State) : Closes s (partCalls i s) :=
  (forEach_closes (fun c _ => markGone_closes c) _ s).trans (forEach_closes (fun c _ => closeContext_closes c .signOff) _ _)

/-- Every partner is FREE or in CLOSING then. -/
theorem partCalls_ended {c : ContextId} (partner : c ∈ (s.slot i).partners) : Ended c (partCalls i s) :=
  forEach_closeContext_ended .signOff _ partner

theorem slot_quietSlot (j : SlotId) (s : State) : (quietSlot i s).slot j =
    if i = j then (s.slot i).dropTones.dropUnbegun else s.slot j := by
  simp only [quietSlot, slot_onSlot, if_true]
  split <;> rfl

@[simp] theorem dropUnbegun_fields (r : Slot) : r.dropUnbegun.boundIndex = r.boundIndex ∧
    r.dropUnbegun.visitor = r.visitor ∧ r.dropUnbegun.partners = r.partners := by
  unfold Slot.dropUnbegun
  split <;> exact ⟨rfl, rfl, rfl⟩

theorem dropUnbegun_quiet (r : Slot) : r.Quiet r.dropUnbegun := by
  unfold Slot.dropUnbegun
  split
  · exact { Slot.Quiet.refl r with
      queue := fun small => (List.length_take_le _ _).trans (by decide) }
  · exact { Slot.Quiet.refl r with queue := fun _ => Nat.zero_le _ }

theorem dropTones_quiet (r : Slot) : r.Quiet r.dropTones := { Slot.Quiet.refl r with }

theorem quietSlot_moves {L : Ledger} : Moves L s (quietSlot i s) :=
  (onSlot_moves (dropTones_quiet _)).trans (onSlot_moves (dropUnbegun_quiet _))

theorem markGone_moves {L : Ledger} (c : ContextId) : Moves L s (markGone c s) :=
  onContext_moves (f := fun x => { x with gone := true }) fun x _ => { Context.Quiet.refl x with }

theorem partCalls_moves {L : Ledger} : Moves L s (partCalls i s) :=
  (forEach_moves (fun c _ => markGone_moves c) _ s).trans (forEach_moves (fun c _ => closeContext_moves c .signOff) _ _)

/-- A slot record without its tones, messages and admission, as a sign-off leaves it. -/
theorem quieted_follows (i : SlotId) (s : State) : ∃ closed, (s.slot i).Follows closed ∧
    (quietSlot i (partCalls i s)).slot i = closed.dropTones.dropUnbegun :=
  ⟨_, (partCalls_closes i s).slot i, by rw [slot_quietSlot, if_pos rfl]⟩

/-- The release reads the slot as it was before its calls were closed. -/
theorem releaseAdmission_quieted (i : SlotId) (s : State) :
    releaseAdmission (s.slot i) (quietSlot i (partCalls i s)) =
      releaseAdmission ((quietSlot i (partCalls i s)).slot i) (quietSlot i (partCalls i s)) := by
  obtain ⟨closed, follows, slot⟩ := quieted_follows i s
  obtain ⟨index, visitor, -⟩ := dropUnbegun_fields closed.dropTones
  refine releaseAdmission_congr ?_ ?_ _
  · rw [slot, index, follows.rest]
    rfl
  · rw [slot, visitor, follows.rest]
    rfl

theorem signOffSlot_moves {L : Ledger} (cause : SignOffCause) (i : SlotId) : Moves L s (signOffSlot cause i s) := by
  by_cases admitted : (s.slot i).isAdmitted = true
  · rw [signOffSlot_admitted admitted, releaseAdmission_quieted]
    obtain ⟨closed, follows, slot⟩ := quieted_follows i s
    obtain ⟨-, -, partners⟩ := dropUnbegun_fields closed.dropTones
    have quiet := (dropTones_quiet closed).trans (dropUnbegun_quiet _)
    refine (partCalls_moves.trans quietSlot_moves).trans
      ((Moves.of (.lockOut i ?_ fun c partner x held => ?_)).trans (post_moves ..))
    · rw [slot, quiet.admitted, follows.rest]
      exact admitted
    · rw [slot, partners] at partner
      exact partCalls_ended (follows.partners.subset partner) x held
  · rw [signOffSlot_not_admitted (by simpa using admitted)]

/-! ### What a sign-off leaves -/

/-- The slot itself: what the closes leave of it, without tones, messages not begun and admission (R75). -/
theorem signOffSlot_slot_self (cause : SignOffCause) (admitted : (s.slot i).isAdmitted = true) :
    (signOffSlot cause i s).slot i = ((partCalls i s).slot i).dropTones.dropUnbegun.lockOut := by
  rw [signOffSlot_admitted admitted, slot_post, slot_onSlot, if_pos rfl, slot_releaseAdmission, slot_quietSlot,
    if_pos rfl]

/-- Every other slot keeps its admission. -/
theorem signOffSlot_slot_other (cause : SignOffCause) {j : SlotId} (other : j ≠ i) :
    (s.slot j).Follows ((signOffSlot cause i s).slot j) := by
  by_cases admitted : (s.slot i).isAdmitted = true
  · rw [signOffSlot_admitted admitted, slot_post, slot_onSlot, if_neg other.symm, slot_releaseAdmission, slot_quietSlot,
      if_neg other.symm]
    exact (partCalls_closes i s).slot j
  · rw [signOffSlot_not_admitted (by simpa using admitted)]
    exact .refl _

theorem lockOut_isAdmitted (r : Slot) : r.lockOut.isAdmitted = false := rfl

/-- The slot is admitted no longer. -/
theorem signOffSlot_isAdmitted_self (cause : SignOffCause) : ((signOffSlot cause i s).slot i).isAdmitted = false := by
  by_cases admitted : (s.slot i).isAdmitted = true
  · rw [signOffSlot_slot_self cause admitted]
    rfl
  · rw [signOffSlot_not_admitted (by simpa using admitted)]
    simpa using admitted

/-- The record of the admission loses its admitted slot, and every other record stands (R75). -/
theorem signOffSlot_record (cause : SignOffCause) (admitted : (s.slot i).isAdmitted = true) (q : RecordId) :
    (signOffSlot cause i s).record q =
      if (s.slot i).boundIndex = some q then (s.record q).map fun d => { d with admittedSlot := none }
      else s.record q := by
  have directory : (quietSlot i (partCalls i s)).record q = s.record q := by
    change (partCalls i s).record q = s.record q
    rw [(partCalls_closes i s).rest]
    rfl
  rw [signOffSlot_admitted admitted, record_post]
  change (releaseAdmission _ _).record q = _
  rw [record_releaseAdmission, directory]

end

/-! ### Sign-offs along a list of slots -/

/-- A record after sign-offs: its admitted slot may be gone. -/
theorem signOffSlot_record_cases (cause : SignOffCause) (i : SlotId) (s : State) (q : RecordId) :
    (signOffSlot cause i s).record q = s.record q ∨
      (signOffSlot cause i s).record q = (s.record q).map fun d => { d with admittedSlot := none } := by
  by_cases admitted : (s.slot i).isAdmitted = true
  · rw [signOffSlot_record cause admitted]
    split
    · exact .inr rfl
    · exact .inl rfl
  · rw [signOffSlot_not_admitted (by simpa using admitted)]
    exact .inl rfl

end Sys2Proof.Machine
end

section
/-! SUPPORT. The operations of the Admission Unit as moves: abandon, refusal, failure and success, the bands, the
sign-on protocol (04_extension_admission). -/

namespace Sys2Proof.Machine

open Sys2Proof.Safety

section
variable {s : State}

/-! ### Abandon and refusal -/

theorem pendingRecord_some {i : SlotId} {r : RecordId} (found : pendingRecord i s = some r) :
    ∃ x, s.record r = some x ∧ x.pendingSlot = some i := by
  have named := List.find?_some found
  cases held : s.record r with
  | none => simp [held] at named
  | some x => exact ⟨x, rfl, by simpa [held] using named⟩

theorem pendingRecord_none {i : SlotId} (absent : pendingRecord i s = none) (r : RecordId) (x : Record)
    (held : s.record r = some x) : x.pendingSlot ≠ some i := by
  intro named
  have missed := List.find?_eq_none.mp absent r (List.mem_finRange r)
  simp [held, named] at missed

/-- The one record pending at a slot is the one found. -/
theorem pendingRecord_of_unique {i : SlotId} {r : RecordId} {x : Record} (held : s.record r = some x)
    (pending : x.pendingSlot = some i) (unique : ∀ q y, s.record q = some y → y.pendingSlot = some i → q = r) :
    pendingRecord i s = some r := by
  cases found : pendingRecord i s with
  | none => exact absurd pending (pendingRecord_none found r x held)
  | some q =>
    obtain ⟨y, held', pending'⟩ := pendingRecord_some found
    rw [unique q y held' pending']

theorem clearPending_eq (i : SlotId) (s : State) : clearPending i s =
    (pendingRecord i s).elim s fun r => onRecord r (fun x => { x with pendingSlot := none }) s := by
  unfold clearPending
  cases pendingRecord i s <;> rfl

/-- A sign-on in progress is stopped by its record and its challenge. -/
theorem clearPending_moves {i : SlotId} {S : List SlotId} {B : List RecordId} (signing : (s.slot i).signingOn = true) :
    Relation.ReflTransGen Move (⟨S, B⟩, s)
      (⟨i :: S, B⟩, onSlot i (fun r => { r with challenge := none }) (clearPending i s)) := by
  rw [clearPending_eq]
  exact .single (.stop i _ signing (fun r found => pendingRecord_some found) pendingRecord_none)

theorem slot_clearPending (i j : SlotId) (s : State) : (clearPending i s).slot j = s.slot j := by
  unfold clearPending
  split <;> rfl

theorem onSlot_onSlot (i : SlotId) (f g : Slot → Slot) (s : State) :
    onSlot i f (onSlot i g s) = onSlot i (fun r => f (g r)) s := by
  simp only [onSlot, slot_withSlot_self, withSlot_withSlot]

theorem responseTimer_moves {L : Ledger} (i : SlotId) (o : Option Timer) :
    Moves L s (onSlot i (fun r => { r with responseTimer := o }) s) :=
  onSlot_moves { Slot.Quiet.refl (s.slot i) with }

theorem withdraw_any_moves {S : List SlotId} {B : List RecordId} (p : Job → Bool) :
    Moves ⟨S, B⟩ s (withdraw p s) := withdraw_moves p

theorem stopSignOn_moves {i : SlotId} {S : List SlotId} {B : List RecordId} (signing : (s.slot i).signingOn = true) :
    Relation.ReflTransGen Move (⟨S, B⟩, s) (⟨i :: S, B⟩, stopSignOn i s) := by
  have stopped : stopSignOn i s = onSlot i (fun r => { r with responseTimer := none })
      (onSlot i (fun r => { r with challenge := none }) (clearPending i (withdraw (Job.isVerifyOf i) s))) := by
    simp [stopSignOn, signing, onSlot]
  rw [stopped]
  exact (withdraw_any_moves _).trans ((clearPending_moves (by simpa using signing)).trans
    (responseTimer_moves i none))

theorem stopSignOn_idle {i : SlotId} (idle : (s.slot i).signingOn = false) : stopSignOn i s = s := by
  simp [stopSignOn, idle]

theorem abandon_idle {i : SlotId} (idle : (s.slot i).signingOn = false) : abandon i s = s := by
  simp [abandon, idle]

theorem abandon_moves {L : Ledger} (i : SlotId) : Moves L s (abandon i s) := by
  obtain ⟨S, B⟩ := L
  by_cases signing : (s.slot i).signingOn = true
  · have ended : abandon i s = onSlot i (fun r => { r with responseTimer := none })
        (onSlot i (fun r => { r with admission := .locked }) (onSlot i (fun r => { r with challenge := none })
          (clearPending i (withdraw (Job.isVerifyOf i) s)))) := by
      rw [onSlot_onSlot, onSlot_onSlot]
      exact if_pos signing
    rw [ended]
    exact (withdraw_any_moves _).trans ((clearPending_moves (by simpa using signing)).trans
      ((Relation.ReflTransGen.single (.settle i .locked (.inl rfl))).trans
        (responseTimer_moves i none)))
  · rw [abandon_idle (by simpa using signing)]

/-- Steps 3 to 6 of a refusal settle the slot (R66). -/
theorem concludeRefusal_moves {S : List SlotId} {B : List RecordId} (i : SlotId) (reason : Reason)
    (index : Option RecordId) :
    Relation.ReflTransGen Move (⟨i :: S, B⟩, s) (⟨S, B⟩, concludeRefusal i reason index s) := by
  have held (a : Admission) (t : Option Timer) (u : State) (ends : a = .locked ∨ a = .hold) :
      Relation.ReflTransGen Move (⟨i :: S, B⟩, u)
        (⟨S, B⟩, onSlot i (fun r => { r with admission := a, refusalHold := t }) u) := by
    have twice : onSlot i (fun r => { r with admission := a, refusalHold := t }) u =
        onSlot i (fun r => { r with refusalHold := t }) (onSlot i (fun r => { r with admission := a }) u) := by
      rw [onSlot_onSlot]
    rw [twice]
    exact (Relation.ReflTransGen.single (.settle i a ends)).trans (onSlot_moves { Slot.Quiet.refl _ with })
  have ends (u : State) : Relation.ReflTransGen Move (⟨i :: S, B⟩, u) (⟨S, B⟩, onSlot i (fun r =>
      if s.timers.refusalHold = 0 then { r with admission := .locked, refusalHold := none }
      else { r with admission := .hold, refusalHold := some { elapsed := 0, due := false } }) u) := by
    split
    · exact held .locked none u (.inl rfl)
    · exact held .hold _ u (.inr rfl)
  exact (enqueue_moves (L := ⟨i :: S, B⟩) ..).trans ((ends _).trans
    ((requestFunction_moves (L := ⟨S, B⟩) ..).trans (post_moves (L := ⟨S, B⟩) ..)))

/-- A slot whose refusal is begun: its sign-on is stopped, if it was in progress (R66, R78). -/
theorem beginRefusal_moves {i : SlotId} {S : List SlotId} {B : List RecordId}
    (heard : (s.slot i).signingOn = true ∨ (s.slot i).kind = .extension ∧ (s.slot i).admission = .locked ∨
      ∃ r x, s.record r = some x ∧ x.pendingSlot = some i) :
    Relation.ReflTransGen Move (⟨S, B⟩, s) (⟨i :: S, B⟩, stopSignOn i s) := by
  by_cases signing : (s.slot i).signingOn = true
  · exact stopSignOn_moves signing
  · have idle : (s.slot i).signingOn = false := by simpa using signing
    rw [stopSignOn_idle idle]
    exact .single (.hear i idle (heard.resolve_left signing))

/-! ### Failures and successes -/

/-- The last act of a bar signs the admitted slot off (R78). -/
theorem barRecord_signOff {S : List SlotId} {B : List RecordId} {r : RecordId} :
    Relation.ReflTransGen Move (⟨S, r :: B⟩, s) (⟨S, B⟩, match (s.record r).bind Record.admittedSlot with
      | some a => signOffSlot .barred a s
      | none => s) := by
  split
  next a admitted =>
    refine (signOffSlot_moves (L := ⟨S, r :: B⟩) .barred a).trans (.single (.barred r fun y b held slot => ?_))
    obtain ⟨x, held', slot'⟩ := Option.bind_eq_some_iff.mp admitted
    obtain kept | lost := signOffSlot_record_cases .barred a s r
    · have same : x = y := Option.some.inj (held'.symm.trans (kept.symm.trans held))
      have same : a = b := Option.some.inj (slot'.symm.trans (same ▸ slot))
      exact same ▸ signOffSlot_isAdmitted_self .barred
    · rw [lost, held'] at held
      obtain rfl := Option.some.inj held
      simp at slot
  next free =>
    refine .single (.barred r fun y b held slot => ?_)
    rw [held] at free
    simp [slot] at free

/-- A record that is BARRED loses its pending and its admitted slot (R78). -/
theorem barRecord_moves {S : List SlotId} {B : List RecordId} (r : RecordId) :
    Relation.ReflTransGen Move (⟨S, r :: B⟩, s) (⟨S, B⟩, barRecord r s) := by
  have refused : Moves ⟨S, r :: B⟩ s (match (s.record r).bind Record.pendingSlot with
      | some p => s |> stopSignOn p |> concludeRefusal p .barred (some r)
      | none => s) := by
    split
    next p pending =>
      obtain ⟨x, held, slot⟩ := Option.bind_eq_some_iff.mp pending
      exact (beginRefusal_moves (.inr (.inr ⟨r, x, held, slot⟩))).trans (concludeRefusal_moves ..)
    next => exact .refl
  exact refused.trans barRecord_signOff

theorem setStandingOf_moves {L : Ledger} {r : RecordId} {x : Record} {faults : Nat} {standing : Standing}
    (held : s.record r = some x)
    (judged : x.Judged → ({ x with faults := faults, standing := standing } : Record).Judged)
    (barred : standing = .barred → x.standing = .barred) : Moves L s (setStandingOf r faults standing s) := by
  have written : Moves L s (s.withRecord r (some { x with faults := faults, standing := standing })) :=
    .of (.judge r x _ held rfl rfl judged barred)
  simp only [setStandingOf, held]
  split
  · exact written
  · exact written.trans (post_moves ..)

/-- A record becomes BARRED, with all that follows (R76, R78, R80). -/
theorem bar_moves {L : Ledger} {r : RecordId} {x : Record} (held : s.record r = some x) :
    Moves L s (barRecord r (setStandingOf r Config.faultMax .barred s)) := by
  obtain ⟨S, B⟩ := L
  refine Relation.ReflTransGen.trans (b := (⟨S, r :: B⟩, setStandingOf r Config.faultMax .barred s)) ?_
    (barRecord_moves r)
  have written : Relation.ReflTransGen Move (⟨S, B⟩, s)
      (⟨S, r :: B⟩, s.withRecord r (some { x with faults := Config.faultMax, standing := .barred })) :=
    .single (.bar r x held)
  simp only [setStandingOf, held]
  split
  · exact written
  · exact written.trans (post_moves (L := ⟨S, r :: B⟩) ..)

theorem countFailure_moves {L : Ledger} (r : RecordId) : Moves L s (countFailure r s) := by
  cases held : s.record r with
  | none =>
    simp only [countFailure, held]
    exact .refl
  | some x =>
    simp only [countFailure, held]
    split
    · exact .refl
    next standing =>
      split
      · exact bar_moves held
      next small =>
        refine setStandingOf_moves held (fun judged => ?_) (fun barred => ?_)
        · obtain ⟨-, -, suspect⟩ := judged
          have suspect := suspect standing
          have bound : x.faults + 8 ≤ 255 := Nat.le_of_not_lt small
          by_cases high : Config.suspectAt ≤ x.faults + Config.faultStep
          · rw [if_pos high]
            exact ⟨bound, nofun, fun _ => ⟨fun _ => high, fun _ => rfl⟩⟩
          · rw [if_neg high]
            exact ⟨bound, fun barred => absurd barred standing, fun _ =>
              ⟨fun same => absurd (Nat.le_trans (suspect.mp same) (Nat.le_add_right _ _)) high, fun past => absurd past high⟩⟩
        · split at barred
          · exact Standing.noConfusion barred
          · exact absurd barred standing

theorem countSuccess_moves {L : Ledger} (r : RecordId) : Moves L s (countSuccess r s) := by
  cases held : s.record r with
  | none =>
    simp only [countSuccess, held]
    exact .refl
  | some x =>
    simp only [countSuccess, held]
    split
    next good =>
      refine setStandingOf_moves held (fun judged => ?_) nofun
      obtain ⟨bound, -, suspect⟩ := judged
      have low : ¬128 ≤ x.faults := fun high => by simpa [good] using (suspect (by simp [good])).mpr high
      exact ⟨show x.faults - 1 ≤ 255 by omega, nofun, fun _ => ⟨nofun, fun high => absurd (show 128 ≤ x.faults - 1 from high) (by omega)⟩⟩
    · exact setStandingOf_moves held (fun _ => ⟨show 127 ≤ 255 by decide, nofun, fun _ => ⟨nofun, fun high => absurd (show 128 ≤ 127 from high) (by decide)⟩⟩) nofun
    · exact .refl

/-- A refusal of a sign-on at a slot that is signing on or LOCKED (R66). -/
theorem refuse_moves {L : Ledger} {i : SlotId} (reason : Reason) (index : Option RecordId)
    (heard : (s.slot i).signingOn = true ∨ (s.slot i).kind = .extension ∧ (s.slot i).admission = .locked) :
    Moves L s (refuse i reason index s) := by
  obtain ⟨S, B⟩ := L
  have counted (u : State) : Moves ⟨i :: S, B⟩ u (match index with
      | some r => if reason.isFailure then countFailure r u else u
      | none => u) := by
    split
    · split
      · exact countFailure_moves _
      · exact .refl
    · exact .refl
  exact (beginRefusal_moves (heard.imp id .inl)).trans ((counted _).trans (concludeRefusal_moves ..))

/-! ### Time bands -/

theorem onSlot_admission_moves {L : Ledger} {i : SlotId} {a : Admission}
    (admitted : (s.slot i).isAdmitted = (a == .admitted || a == .expiring))
    (signing : (s.slot i).signingOn = (a == .challenged || a == .verifying)) :
    Moves L s (onSlot i (fun r => { r with admission := a }) s) :=
  onSlot_moves { Slot.Quiet.refl _ with admitted := admitted.symm, signing := signing.symm }

theorem sweepSlot_moves {L : Ledger} (k : ClassId) (i : SlotId) : Moves L s (sweepSlot k i s) := by
  unfold sweepSlot
  dsimp only
  split
  next matching =>
    obtain ⟨-, admission, -⟩ := matching
    split
    · exact signOffSlot_moves ..
    · exact (onSlot_admission_moves (by rw [Slot.isAdmitted, admission]; rfl)
        (by rw [Slot.signingOn, admission]; rfl)).trans ((enqueue_moves ..).trans (requestFunction_moves ..))
  next => exact .refl

theorem restoreSlot_moves {L : Ledger} (k : ClassId) (i : SlotId) : Moves L s (restoreSlot k i s) := by
  unfold restoreSlot
  dsimp only
  split
  next matching =>
    obtain ⟨-, admission, -⟩ := matching
    exact (onSlot_admission_moves (by rw [Slot.isAdmitted, admission]; rfl)
      (by rw [Slot.signingOn, admission]; rfl)).trans (enqueueAdmitted_moves i)
  next => exact .refl

theorem withClass_moves {L : Ledger} (k : ClassId) (x : ClassRecord) : Moves L s (s.withClass k x) :=
  .of (.tables (s.classes.set k x) s.visitors s.timers s.sites s.tones s.clock rfl rfl rfl)

theorem recomputeBand_moves {L : Ledger} (k : ClassId) : Moves L s (recomputeBand k s) := by
  unfold recomputeBand
  dsimp only
  split
  · exact .refl
  · split
    · exact (withClass_moves k _).trans ((post_moves ..).trans (forEach_moves (fun i _ => restoreSlot_moves k i) ..))
    · exact (withClass_moves k _).trans ((post_moves ..).trans (forEach_moves (fun i _ => sweepSlot_moves k i) ..))

theorem recomputeBands_moves {L : Ledger} : Moves L s (recomputeBands s) :=
  forEach_moves (fun k _ => recomputeBand_moves k) _ _

/-! ### The sign-on protocol -/

section
variable {i : SlotId} (kind : (s.slot i).kind = .extension) (locked : (s.slot i).admission = .locked)
include kind locked

theorem admitVisitor_moves (n : ExtensionNumber) (k : ClassId) (room : s.visitors.count < 32) :
    Moves .clear s (admitVisitor i n k s) :=
  (Moves.of (.visitor i n k kind locked room)).trans
    ((enqueueAdmitted_moves i).trans ((post_moves ..).trans (requestFunction_moves ..)))

theorem judgeVisitor_moves (n : ExtensionNumber) : Moves .clear s (judgeVisitor i n s) := by
  unfold judgeVisitor
  split
  · exact refuse_moves _ _ (.inr ⟨kind, locked⟩)
  · split
    · exact refuse_moves _ _ (.inr ⟨kind, locked⟩)
    · split
      · exact refuse_moves _ _ (.inr ⟨kind, locked⟩)
      · split
        · exact refuse_moves _ _ (.inr ⟨kind, locked⟩)
        next room => exact admitVisitor_moves kind locked n _ (Nat.lt_of_not_le room)

theorem challengeSlot_moves {r : RecordId} {x : Record} (held : s.record r = some x) (pending : x.pendingSlot = none) :
    Moves .clear s (challengeSlot i r s) :=
  drawNonce_moves.trans ((Moves.of (.challenge i r x _ (by simpa using kind) (by simpa using locked)
    ((record_drawNonce s r).trans held) pending)).trans (enqueue_moves ..))

theorem judgeSignOn_moves (n : ExtensionNumber) (serial : BitVec 48) : Moves .clear s (judgeSignOn i n serial s) := by
  unfold judgeSignOn
  split
  · exact refuse_moves _ _ (.inr ⟨kind, locked⟩)
  · split
    · exact judgeVisitor_moves kind locked n
    · split
      · exact .refl
      next x held =>
        split
        · exact refuse_moves _ _ (.inr ⟨kind, locked⟩)
        · split
          · exact refuse_moves _ _ (.inr ⟨kind, locked⟩)
          · split
            · exact refuse_moves _ _ (.inr ⟨kind, locked⟩)
            · split
              · exact refuse_moves _ _ (.inr ⟨kind, locked⟩)
              next free => exact challengeSlot_moves kind locked held (by simpa using free)

end

/-- A signed-off slot keeps its kind and is LOCKED. -/
theorem signOffSlot_kind (cause : SignOffCause) (i j : SlotId) : ((signOffSlot cause i s).slot j).kind = (s.slot j).kind := by
  by_cases admitted : (s.slot i).isAdmitted = true
  · by_cases same : j = i
    · subst same
      rw [signOffSlot_slot_self cause admitted]
      have quiet := (dropTones_quiet ((partCalls j s).slot j)).trans (dropUnbegun_quiet _)
      exact quiet.kind.trans (by rw [((partCalls_closes j s).slot j).rest])
    · rw [(signOffSlot_slot_other cause same).rest]
  · rw [signOffSlot_not_admitted (by simpa using admitted)]

theorem signOffSlot_locked {i : SlotId} (cause : SignOffCause) (admitted : (s.slot i).isAdmitted = true) :
    ((signOffSlot cause i s).slot i).admission = .locked := by
  rw [signOffSlot_slot_self cause admitted]
  rfl

theorem isAdmitted_iff (r : Slot) : r.isAdmitted = true ↔ r.admission = .admitted ∨ r.admission = .expiring := by
  simp [Slot.isAdmitted]

theorem signingOn_iff (r : Slot) : r.signingOn = true ↔ r.admission = .challenged ∨ r.admission = .verifying := by
  simp [Slot.signingOn]

theorem takeSignOn_moves {i : SlotId} (kind : (s.slot i).kind = .extension) (n : ExtensionNumber)
    (serial : BitVec 48) : Moves .clear s (takeSignOn i n serial s) := by
  have admitted (known : (s.slot i).isAdmitted = true) : Moves .clear s (if (s.slot i).number = some n then enqueueAdmitted i s
      else s |> signOffSlot .replaced i |> judgeSignOn i n serial) := by
    split
    · exact enqueueAdmitted_moves i
    · exact (signOffSlot_moves ..).trans (judgeSignOn_moves ((signOffSlot_kind ..).trans kind)
        (signOffSlot_locked _ known) n serial)
  unfold takeSignOn
  split
  next locked => exact judgeSignOn_moves kind locked n serial
  next known => exact admitted ((isAdmitted_iff _).mpr (.inl known))
  next known => exact admitted ((isAdmitted_iff _).mpr (.inr known))
  all_goals exact .refl

theorem takeResponse_moves (i : SlotId) (answer : BitVec 32) : Moves .clear s (takeResponse i answer s) := by
  unfold takeResponse
  split
  next challenged =>
    have verifying : Moves .clear s (onSlot i (fun r => { r with admission := .verifying, responseTimer := none }) s) :=
      onSlot_moves { Slot.Quiet.refl _ with
        admitted := by rw [Slot.isAdmitted, Slot.isAdmitted, challenged]; rfl
        signing := by rw [Slot.signingOn, Slot.signingOn, challenged]; rfl }
    dsimp only
    split
    · exact verifying.trans (postJob_moves _)
    · exact verifying
  next => exact .refl

theorem takeSignOff_moves (i : SlotId) : Moves .clear s (takeSignOff i s) := by
  unfold takeSignOff
  split
  · exact abandon_moves i
  · exact signOffSlot_moves ..

theorem responseTimeout_moves (i : SlotId) : Moves .clear s (responseTimeout i s) := by
  unfold responseTimeout
  split
  next due => exact refuse_moves _ _ (.inl ((signingOn_iff _).mpr (.inl due.1)))
  next => exact .refl

theorem refusalHoldEnd_moves (i : SlotId) : Moves .clear s (refusalHoldEnd i s) := by
  unfold refusalHoldEnd
  split
  next due =>
    exact onSlot_moves { Slot.Quiet.refl _ with
      admitted := by rw [Slot.isAdmitted, Slot.isAdmitted, due.1]; rfl
      signing := by rw [Slot.signingOn, Slot.signingOn, due.1]; rfl }
  next => exact .refl

theorem succeed_moves {i : SlotId} {r : RecordId} {x : Record} (held : s.record r = some x)
    (signing : (s.slot i).signingOn = true) (pending : x.pendingSlot = some i) : Moves .clear s (succeed i r s) := by
  have stopped : Relation.ReflTransGen Move (.clear, s) (⟨[i], []⟩, onSlot i (fun y => { y with challenge := none })
      (onRecord r (fun y => { y with pendingSlot := none }) s)) :=
    .single (.stop i (some r) signing (fun q same => Option.some.inj same ▸ ⟨x, held, pending⟩)
      fun absent => (Option.some_ne_none r absent).elim)
  simp only [succeed, held]
  refine stopped.trans ?_
  have kept : (onSlot i (fun y => { y with challenge := none })
      (onRecord r (fun y => { y with pendingSlot := none }) s)).record r = some { x with pendingSlot := none } := by
    change (onRecord r _ s).record r = _
    rw [record_onRecord, if_pos rfl, held]
    rfl
  generalize onSlot i (fun y => { y with challenge := none })
    (onRecord r (fun y => { y with pendingSlot := none }) s) = cleared at kept
  have rest (moved : State) (y : Record) (held' : moved.record r = some y)
      (out : ∀ a, y.admittedSlot = some a → (moved.slot a).isAdmitted = false) :=
    Relation.ReflTransGen.trans
      (.single (.enrol i r y x.number x.cls s.clock.reading held' out))
      ((countSuccess_moves (L := .clear) r).trans ((enqueueAdmitted_moves i).trans
        ((post_moves .signedOn (some i) none (some r) (byte x.cls.val)).trans
          (requestFunction_moves .admission i))))
  split
  next a former =>
    refine (signOffSlot_moves (L := ⟨[i], []⟩) .moved a).trans ?_
    obtain same | lost := signOffSlot_record_cases .moved a cleared r
    · refine rest _ _ (same.trans kept) fun b named => ?_
      have same : a = b := Option.some.inj (former.symm.trans named)
      exact same ▸ signOffSlot_isAdmitted_self .moved
    · refine rest _ _ (lost.trans (by rw [kept]; rfl)) fun _ named => (Option.some_ne_none _ named.symm).elim
  next former => exact rest _ _ kept fun b named => absurd (former.symm.trans named) (by simp)

theorem judgeVerify_moves (i : SlotId) (r : RecordId) (answer output : BitVec 32) :
    Moves .clear s (judgeVerify i r answer output s) := by
  unfold judgeVerify
  split
  · exact .refl
  next x held =>
    split
    next verifies =>
      obtain ⟨verifying, pending⟩ := verifies
      have signing : (s.slot i).signingOn = true := (signingOn_iff _).mpr (.inr verifying)
      split
      · exact refuse_moves _ _ (.inl signing)
      · split
        · exact refuse_moves _ _ (.inl signing)
        · exact succeed_moves held signing pending
    next => exact .refl

theorem expiringIdleSignOff_moves (i : SlotId) : Moves .clear s (expiringIdleSignOff i s) := by
  unfold expiringIdleSignOff
  dsimp only
  split
  · exact signOffSlot_moves ..
  · exact .refl

end

end Sys2Proof.Machine
end

section
/-! SUPPORT. The steps of the Privacy Unit and of the Transform Engine as moves (05_transform_engine to
08_descrambler_synchronisation). -/

namespace Sys2Proof.Machine

open Sys2Proof.Safety

section
variable {L : Ledger} {s : State}

/-! ### The engine's selection and its deliveries -/

theorem engineSelect_moves : Moves L s (engineSelect s) := by
  unfold engineSelect
  split
  next idle =>
    split
    · exact .refl
    next q selected =>
      exact .of (.engine _ fun sound => load_sound (loadJob q.job s) sound idle (selected_mem selected) (loadJob_job ..))
  · exact .refl

theorem completed_flown {op : Operation} (done : completed s = some op) : s.engine.operation = some op :=
  (Option.filter_eq_some_iff.mp done).1

theorem finishOperation_moves {op : Operation} (done : completed s = some op) :
    Moves L s (finishOperation op.job s) :=
  .of (.engine _ fun sound => finish_sound sound (completed_flown done))

theorem verifyDelivery_moves : Moves .clear s (verifyDelivery s) := by
  unfold verifyDelivery
  split
  next op done =>
    split
    · exact (finishOperation_moves done).trans (judgeVerify_moves ..)
    · exact .refl
  · exact .refl

theorem takeKey_state (w : KeyWords) (sc : Scrambler) : (sc.takeKey w).state = sc.state := by
  unfold Scrambler.takeKey
  split <;> rfl

/-- A context whose scrambler keeps its state. -/
theorem scrambler_quiet (x : Context) (sc : Scrambler) (state : sc.state = x.scrambler.state) :
    x.Quiet { x with scrambler := sc } :=
  ⟨rfl, rfl, rfl, fun settled => ⟨fun closing => state.trans (settled closing), id⟩⟩

/-- A context that is not CLOSING, by the state of its scrambler, and stays so. -/
theorem Context.Quiet.of_state {x y : Context} (tie : y.tie = x.tie) (ext : y.ext = x.ext) (index : y.index = x.index)
    (state : x.scrambler.state ≠ .clearing) (phase : y.phase = .closing → x.phase = .closing) : x.Quiet y :=
  ⟨tie, ext, index, fun settled =>
    ⟨fun closing => absurd (settled (phase closing)) state, fun closing => absurd (settled closing) state⟩⟩

theorem txKeyDelivery_moves : Moves L s (txKeyDelivery s) := by
  unfold txKeyDelivery
  split
  next op done =>
    split
    · exact (finishOperation_moves done).trans
        (onContext_moves fun x _ => scrambler_quiet x _ (takeKey_state ..))
    · exact .refl
  · exact .refl

theorem rxKeyDelivery_moves : Moves L s (rxKeyDelivery s) := by
  unfold rxKeyDelivery
  split
  next op done =>
    split
    · exact (finishOperation_moves done).trans (onDescrambler_moves ..)
    · exact .refl
  · exact .refl

/-! ### Scrambler -/

theorem testPrivacy_moves (c : ContextId) : Moves L s (testPrivacy c s) := by
  unfold testPrivacy
  split
  · exact .refl
  next x held =>
    split
    · exact (onContext_moves (f := fun y => { y with reached := true }) fun y _ => { Context.Quiet.refl y with }).trans
        ((post_moves ..).trans ((enqueue_moves ..).trans (requestFunction_moves ..)))
    · exact .refl

theorem startRekey_moves (c : ContextId) : Moves L s (startRekey c s) := by
  unfold startRekey
  split
  · exact .refl
  next x held =>
    split
    next running =>
      dsimp only
      refine drawNonce_moves.trans (Moves.trans (withContext_moves ((context_drawNonce s c).trans held) ?_)
        (postJob_moves _))
      exact .of_state rfl rfl rfl (by rw [running]; decide) id
    · exact .refl

theorem boundaryTaken_moves {c : ContextId} {x : Context} {sc : Scrambler} (held : s.context c = some x)
    (state : sc.state = x.scrambler.state ∨ x.scrambler.state ≠ .clearing) : Moves L s (boundaryTaken c sc s) := by
  refine onContext_moves fun y held' => ?_
  obtain rfl : x = y := Option.some.inj (held.symm.trans held')
  obtain same | running := state
  · exact ⟨rfl, rfl, rfl, fun settled => ⟨fun closing => same.trans (settled closing), id⟩⟩
  · exact .of_state rfl rfl rfl running id

theorem keyingBoundary_moves {c : ContextId} {x : Context} (held : s.context c = some x)
    (state : x.scrambler.state = .keying) : Moves L s (keyingBoundary c x s) := by
  have running : x.scrambler.state ≠ .clearing := by rw [state]; decide
  unfold keyingBoundary
  dsimp only
  split
  · refine (onContext_moves fun y held' => ?_).trans (testPrivacy_moves c)
    obtain rfl : x = y := Option.some.inj (held.symm.trans held')
    exact .of_state rfl rfl rfl running nofun
  · exact boundaryTaken_moves held (.inl rfl)

/-- A boundary of a RUNNING or ANNOUNCING scrambler is quiet. -/
theorem assignBlock_moves {c : ContextId} {x : Context} (held : s.context c = some x)
    (state : x.scrambler.state ≠ .clearing) : Moves L s (s.withContext c (some x.assignBlock)) := by
  obtain ⟨tie, ext, index, phase⟩ := assignBlock_quiet_fields x
  exact withContext_moves held (.of_state tie ext index state phase.symm.trans)

theorem runningBoundary_moves {c : ContextId} {x : Context} (held : s.context c = some x)
    (state : x.scrambler.state ≠ .clearing) : Moves L s (runningBoundary c x s) := by
  unfold runningBoundary
  dsimp only
  split
  · exact (assignBlock_moves held state).trans (startRekey_moves c)
  · exact assignBlock_moves held state

theorem announcingBoundary_moves {c : ContextId} {x : Context} (held : s.context c = some x)
    (state : x.scrambler.state ≠ .clearing) : Moves L s (announcingBoundary c x s) := by
  unfold announcingBoundary
  dsimp only
  split
  · exact (assignBlock_moves held state).trans (testPrivacy_moves c)
  · exact assignBlock_moves held state

theorem rekeyingBoundary_moves {c : ContextId} {x : Context} (held : s.context c = some x)
    (state : x.scrambler.state ≠ .clearing) : Moves L s (rekeyingBoundary c x s) := by
  unfold rekeyingBoundary
  dsimp only
  split
  · exact (boundaryTaken_moves held (.inr state)).trans (closeContext_moves ..)
  · split
    · exact (boundaryTaken_moves held (.inr state)).trans (testPrivacy_moves c)
    · exact boundaryTaken_moves held (.inr state)

theorem blockBoundary_moves (c : ContextId) : Moves L s (blockBoundary c s) := by
  unfold blockBoundary
  split
  · exact .refl
  next x held =>
    split
    · split
      next keying => exact keyingBoundary_moves held keying
      next running => exact runningBoundary_moves held (by rw [running]; decide)
      next rekeying => exact rekeyingBoundary_moves held (by rw [rekeying]; decide)
      next announcing => exact announcingBoundary_moves held (by rw [announcing]; decide)
      next => exact boundaryTaken_moves held (.inl rfl)
      next => exact .refl
    · exact .refl

theorem rekeyIntervalExpiry_moves (c : ContextId) : Moves L s (rekeyIntervalExpiry c s) := by
  unfold rekeyIntervalExpiry
  split
  · exact .refl
  · split
    · exact startRekey_moves c
    · exact .refl

theorem contextFree_moves (c : ContextId) : Moves L s (contextFree c s) := by
  unfold contextFree
  split
  · exact .refl
  · split
    · exact freeContext_moves c
    · exact .refl

/-! ### Descrambler -/

theorem enterSync_moves (c : ContextId) (counter : Word) : Moves L s (enterSync c counter s) :=
  (onDescrambler_moves ..).trans (testPrivacy_moves c)

theorem enterPresync_moves (c : ContextId) (counter : Word) : Moves L s (enterPresync c counter s) := by
  unfold enterPresync
  split
  · exact .refl
  · dsimp only
    split
    · exact (onDescrambler_moves ..).trans (enterSync_moves ..)
    · exact onDescrambler_moves ..

theorem enterKeywait_moves (c : ContextId) : Moves L s (enterKeywait c s) := onDescrambler_moves ..

theorem seekKey_moves (c : ContextId) (nonce : BitVec 24) (epoch : Nibble) (countdown : Option Nat) :
    Moves L s (seekKey c nonce epoch countdown s) := by
  unfold seekKey
  split
  · exact .refl
  · exact (withdraw_moves _).trans ((onDescrambler_moves ..).trans (postJob_moves _))

theorem takeAnnouncement_moves (c : ContextId) (m : Marker) : Moves L s (takeAnnouncement c m s) := by
  unfold takeAnnouncement
  dsimp only
  split
  · exact onDescrambler_moves ..
  · exact seekKey_moves ..

theorem announceIf_moves (c : ContextId) (m : Marker) : Moves L s (announceIf c m s) := by
  unfold announceIf
  split
  · exact takeAnnouncement_moves ..
  · exact .refl

theorem dropSought_moves (c : ContextId) : Moves L s (dropSought c s) := by
  unfold dropSought
  dsimp only
  split
  · exact (withdraw_moves _).trans (onDescrambler_moves ..)
  · exact .refl

theorem huntData_moves (c : ContextId) (m : Marker) (x : Context) : Moves L s (huntData c m x s) := by
  unfold huntData
  dsimp only
  split
  · exact (onDescrambler_moves ..).trans ((dropSought_moves c).trans (enterPresync_moves ..))
  · split
    · split
      · exact (onDescrambler_moves ..).trans ((onDescrambler_moves ..).trans (enterPresync_moves ..))
      · exact (onDescrambler_moves ..).trans ((onDescrambler_moves ..).trans (enterKeywait_moves c))
    · exact (onDescrambler_moves ..).trans ((seekKey_moves ..).trans (enterKeywait_moves c))

theorem huntAnnounce_moves (c : ContextId) (m : Marker) (x : Context) : Moves L s (huntAnnounce c m x s) := by
  have taken : Moves L s (s |> onDescrambler c (Descrambler.fixPhase m) |> takeAnnouncement c m) :=
    (onDescrambler_moves ..).trans (takeAnnouncement_moves ..)
  unfold huntAnnounce
  dsimp only
  split
  · exact taken.trans (enterPresync_moves ..)
  · exact taken.trans (enterKeywait_moves c)

theorem huntMarkerFound_moves (c : ContextId) : Moves L s (huntMarkerFound c s) := by
  unfold huntMarkerFound
  split
  · exact .refl
  · split
    · split
      · exact .refl
      · split
        · exact closeContext_moves ..
        · exact huntData_moves ..
        · exact huntAnnounce_moves ..
    · exact .refl

theorem loseSync_moves (c : ContextId) : Moves L s (loseSync c s) := by
  unfold loseSync
  split
  · exact .refl
  next x held =>
    have lost := (onContext_moves (L := L) (s := s) (c := c) (f := fun y => { y with
      syncLosses := raise 255 y.syncLosses, descrambler := y.descrambler.enterHunt })
        fun y _ => { Context.Quiet.refl y with }).trans
          (post_moves .privacyLost (some x.tie) (some c) (some x.index) 0)
    dsimp only
    split
    · exact lost.trans (Moves.trans (L := L) (enqueue_moves ..) (requestFunction_moves ..))
    · exact lost

theorem judgeKeywait_moves (c : ContextId) (d : Descrambler) (m : Option Marker) :
    Moves L s (judgeKeywait c d m s) := by
  unfold judgeKeywait
  split
  · exact onDescrambler_moves ..
  · split
    · exact onDescrambler_moves ..
    · split
      · exact (announceIf_moves ..).trans ((dropSought_moves c).trans (enterPresync_moves ..))
      · split
        · exact (takeAnnouncement_moves ..).trans (onDescrambler_moves ..)
        · split
          · dsimp only
            split
            · exact (onDescrambler_moves ..).trans (enterPresync_moves ..)
            · exact (onDescrambler_moves ..).trans (onDescrambler_moves ..)
          · exact onDescrambler_moves ..

theorem judgePresync_moves (c : ContextId) (x : Context) (d : Descrambler) (m : Option Marker) :
    Moves L s (judgePresync c x d m s) := by
  unfold judgePresync
  split
  · exact onDescrambler_moves ..
  · dsimp only
    split
    · exact (onDescrambler_moves ..).trans ((announceIf_moves ..).trans (enterSync_moves ..))
    · exact (onDescrambler_moves ..).trans (announceIf_moves ..)

theorem missFollowing_moves (c : ContextId) (x : Context) (d : Descrambler) : Moves L s (missFollowing c x d s) := by
  unfold missFollowing
  dsimp only
  generalize (if d.state = .sync then 1 else d.miss + 1) = n
  split
  · exact loseSync_moves c
  · exact onDescrambler_moves ..

theorem judgeSync_moves (c : ContextId) (x : Context) (d : Descrambler) (m : Option Marker) :
    Moves L s (judgeSync c x d m s) := by
  unfold judgeSync
  split
  · exact missFollowing_moves ..
  · exact (onDescrambler_moves ..).trans (announceIf_moves ..)

theorem judgeFlywheel_moves (c : ContextId) (x : Context) (d : Descrambler) (m : Option Marker) :
    Moves L s (judgeFlywheel c x d m s) := by
  unfold judgeFlywheel
  split
  · exact missFollowing_moves ..
  · exact (announceIf_moves ..).trans (enterSync_moves ..)

theorem judgeMarker_moves (c : ContextId) (x : Context) (d : Descrambler) (m : Option Marker) :
    Moves L s (judgeMarker c x d m s) := by
  unfold judgeMarker
  split
  · exact .refl
  · exact judgeKeywait_moves ..
  · exact judgePresync_moves ..
  · exact judgeSync_moves ..
  · exact judgeFlywheel_moves ..

theorem markerFrame_moves (c : ContextId) : Moves L s (markerFrame c s) := by
  unfold markerFrame
  split
  · exact .refl
  next x held =>
    split
    · dsimp only
      split
      · exact (onDescrambler_moves ..).trans (closeContext_moves ..)
      · exact (onDescrambler_moves ..).trans ((judgeMarker_moves ..).trans (onDescrambler_moves ..))
    · exact .refl

theorem blockRestore_moves (c : ContextId) : Moves L s (blockRestore c s) := by
  refine onContext_moves fun x _ => ?_
  split
  · exact { Context.Quiet.refl x with }
  · exact .refl x

theorem huntTimeout_moves (c : ContextId) : Moves L s (huntTimeout c s) := by
  unfold huntTimeout
  split
  · exact .refl
  · split
    · exact closeContext_moves ..
    · exact .refl

theorem clearGuardExpiry_moves (c : ContextId) (side : GuardSide) : Moves L s (clearGuardExpiry c side s) := by
  unfold clearGuardExpiry
  split
  · exact .refl
  · dsimp only
    split
    · exact closeContext_moves ..
    · exact .refl

end

end Sys2Proof.Machine
end

section
/-! SUPPORT. The handset channel, the tone players and the line supervision of a slot as moves (02, 03 and 09). -/

namespace Sys2Proof.Machine

open Sys2Proof.Safety

section
variable {L : Ledger} {s : State}

/-! ### Tone players -/

theorem beginTone_quiet (r : Slot) : r.Quiet r.beginTone := by
  unfold Slot.beginTone
  split
  · exact { Slot.Quiet.refl r with }
  · split <;> exact { Slot.Quiet.refl r with }

theorem endTone_quiet (tones : Tones) (r : Slot) : r.Quiet (r.endTone tones) := by
  unfold Slot.endTone
  split
  · exact { Slot.Quiet.refl r with }
  · exact { Slot.Quiet.refl r with }

theorem tone_moves (i : SlotId) (o : Option Tone) : Moves L s (onSlot i (fun r => { r with tone := o }) s) :=
  onSlot_moves { Slot.Quiet.refl (s.slot i) with }

theorem burstEnd_moves (i : SlotId) : Moves L s (burstEnd i s) := by
  unfold burstEnd
  split
  · exact .refl
  · split
    · exact .refl
    · split
      · exact .refl
      · split
        · exact onSlot_moves (endTone_quiet ..)
        · split
          · exact tone_moves ..
          · exact tone_moves ..

theorem gapEnd_moves (i : SlotId) : Moves L s (gapEnd i s) := by
  unfold gapEnd
  split
  · exact .refl
  · split
    · exact .refl
    · split
      · exact .refl
      · exact tone_moves ..

/-! ### Transmitter -/

theorem beginTransmit_quiet (r : Slot) : r.Quiet r.beginTransmit := by
  unfold Slot.beginTransmit
  split <;> exact { Slot.Quiet.refl r with }

theorem messageStart_moves (i : SlotId) : Moves L s (messageStart i s) := by
  unfold messageStart
  dsimp only
  split
  · exact onSlot_moves (i := i) (f := fun r => { r with
      transmitter := .sending 1, auxOut := _, startDue := false }) { Slot.Quiet.refl (s.slot i) with }
  · exact .refl

theorem messageSent_moves (i : SlotId) : Moves L s (messageSent i s) := by
  unfold messageSent
  dsimp only
  split
  next k m rest _ queued =>
    split
    · exact onSlot_moves (i := i) (f := fun r => { r with transmitter := .gap, txQueue := rest })
        { Slot.Quiet.refl (s.slot i) with
          queue := fun bound => Nat.le_of_succ_le (by simpa [queued] using bound) }
    · exact .refl
  · exact .refl

theorem slotOutput_moves (i : SlotId) : Moves L s (slotOutput i s) :=
  (messageStart_moves i).trans ((messageSent_moves i).trans ((burstEnd_moves i).trans (gapEnd_moves i)))

/-! ### Receive assembler -/

theorem assembler_moves (i : SlotId) (a : Assembler) : Moves L s (onSlot i (fun r => { r with assembler := a }) s) :=
  onSlot_moves { Slot.Quiet.refl (s.slot i) with }

theorem huntAssembler_moves (i : SlotId) : Moves L s (huntAssembler i s) := assembler_moves ..

theorem discardGarbled_moves (i : SlotId) : Moves L s (discardGarbled i s) :=
  onSlot_moves (i := i) (f := fun r => { r with assembler := .hunt none, garbled := raise Config.garbledMax r.garbled })
    { Slot.Quiet.refl (s.slot i) with }

theorem answerStatus_moves (i : SlotId) : Moves L s (answerStatus i s) := enqueue_moves ..

@[simp] theorem huntAssembler_kind (i : SlotId) : ((huntAssembler i s).slot i).kind = (s.slot i).kind := by
  simp [huntAssembler, onSlot]

theorem actOnMessage_moves {i : SlotId} (kind : (s.slot i).kind = .extension) (type : Byte) (body : List Byte) :
    Moves .clear s (actOnMessage i type body s) := by
  have kind' : ((huntAssembler i s).slot i).kind = .extension := (huntAssembler_kind i).trans kind
  have hunting : Moves .clear s (huntAssembler i s) := huntAssembler_moves i
  unfold actOnMessage
  split
  · split
    · exact hunting.trans (takeSignOn_moves kind' ..)
    · exact discardGarbled_moves i
  · split
    · split
      · exact hunting.trans (takeResponse_moves ..)
      · exact discardGarbled_moves i
    · split
      · split
        · exact hunting.trans (takeSignOff_moves i)
        · exact discardGarbled_moves i
      · split
        · split
          · exact hunting.trans (answerStatus_moves i)
          · exact discardGarbled_moves i
        · exact hunting

theorem takesNibbles_kind {r : Slot} (takes : r.takesNibbles = true) : r.kind = .extension := by
  unfold Slot.takesNibbles at takes
  simpa using (Bool.and_eq_true_iff.mp takes).1

theorem takeNibble_moves {i : SlotId} (kind : (s.slot i).kind = .extension) (x : Nibble) :
    Moves .clear s (takeNibble i x s) := by
  unfold takeNibble
  dsimp only
  split
  · split <;> exact assembler_moves ..
  · exact assembler_moves ..
  · split
    · exact assembler_moves ..
    · exact discardGarbled_moves i
  · exact assembler_moves ..
  · split <;> exact assembler_moves ..
  · exact assembler_moves ..
  · split
    · exact actOnMessage_moves kind ..
    · exact discardGarbled_moves i

theorem onArrival_moves {i : SlotId} {f : State → State}
    (acts : ∀ t : State, (t.slot i).kind = .extension → Moves .clear t (f t)) : Moves .clear s (onArrival i f s) := by
  unfold onArrival
  split
  next takes =>
    exact (huntAssembler_moves i).trans (acts _ ((huntAssembler_kind i).trans (takesNibbles_kind takes.1)))
  · exact .refl

/-! ### Filter and idle duration -/

theorem countIdle_quiet (r : Slot) : r.Quiet r.countIdle := { Slot.Quiet.refl r with }

theorem filter_quiet (x : Nibble) (r : Slot) : r.Quiet (r.filter x) := by
  unfold Slot.filter
  split
  · exact { Slot.Quiet.refl r with }
  · split
    · exact { Slot.Quiet.refl r with }
    · split <;> exact { Slot.Quiet.refl r with }

theorem superviseLine_quiet (delivers : Bool) (w : Word) (r : Slot) : r.Quiet (r.superviseLine delivers w) := by
  have acted : r.Quiet (if delivers && !r.filterFresh then r.filter (lineStateOf w) else r) := by
    split
    · exact filter_quiet ..
    · exact .refl r
  unfold Slot.superviseLine
  dsimp only
  generalize (if delivers && !r.filterFresh then r.filter (lineStateOf w) else r) = after at acted
  split
  · exact acted
  · exact acted.trans (countIdle_quiet _)

theorem filteredCodeChange_moves (i : SlotId) : Moves L s (filteredCodeChange i s) := by
  unfold filteredCodeChange
  split
  · exact onSlot_moves (i := i) (f := fun r =>
      Slot.countIdle { r with filtered := r.candidate, persistence := 0, changeDue := false })
      { Slot.Quiet.refl (s.slot i) with }
  · exact .refl

theorem superviseSlots_moves : Moves L s (superviseSlots s) :=
  slots_moves rfl fun i => by
    unfold superviseSlots
    rw [slot_ofTable]
    exact superviseLine_quiet ..

theorem Slot.beginFrame_quiet (timers : Timers) (r : Slot) : r.Quiet (r.beginFrame timers) :=
  Slot.Quiet.trans (t := { r with
      gate := r.gating
      filterFresh := false
      responseTimer := r.responseTimer.map (Timer.advance timers.responseTimeout)
      refusalHold := r.refusalHold.map (Timer.advance timers.refusalHold) })
    { Slot.Quiet.refl r with } ((beginTransmit_quiet _).trans (beginTone_quiet _))

/-! ### Descramblers on the line side -/

theorem takeWord_quiet (ws : SlotWords) (x : Context) : x.Quiet (x.takeWord ws) := by
  unfold Context.takeWord
  split
  · exact .refl x
  · exact { Context.Quiet.refl x with }

theorem takeWords_moves (p : ContextId → Bool) : Moves L s (takeWords p s) :=
  contexts_moves rfl fun c => by
    unfold takeWords
    rw [context_ofTable]
    split
    · exact quiet_rel_map fun x _ => takeWord_quiet _ x
    · exact quiet_rel_refl _

theorem slipped_quiet (x : Context) : x.Quiet x.slipped := by
  unfold Context.slipped
  split
  · exact .refl x
  · exact { Context.Quiet.refl x with }

theorem mapSlots_moves {f : Slot → Slot} (quiet : ∀ r : Slot, r.Quiet (f r)) :
    Moves L s { s with slots := mapTable f s.slots } :=
  slots_moves rfl fun i => by
    rw [slot_mapTable]
    exact quiet _

theorem mapContexts_moves {f : Context → Context} (quiet : ∀ x : Context, x.Quiet (f x)) :
    Moves L s { s with contexts := mapTable (Option.map f) s.contexts } :=
  contexts_moves rfl fun c => by
    rw [context_mapTable]
    exact quiet_rel_map fun x _ => quiet x

theorem slipped_moves : Moves L s { s with contexts := mapTable (Option.map Context.slipped) s.contexts } :=
  mapContexts_moves slipped_quiet

theorem judgeMarkers_moves (c : ContextId) : Moves L s (judgeMarkers c s) :=
  (markerFrame_moves c).trans (huntMarkerFound_moves c)

theorem takeNibbles_moves : Moves .clear s (takeNibbles s) := by
  unfold takeNibbles
  split
  · refine forEach_moves (fun i t => ?_) _ _
    split
    next takes => exact takeNibble_moves (takesNibbles_kind takes) _
    · exact .refl
  · exact .refl

end

end Sys2Proof.Machine
end

section
/-! SUPPORT. The requests of the maintenance channel as moves (11_maintenance_channel). -/

namespace Sys2Proof.Machine

open Sys2Proof.Safety

/-! ### Each element of a list in turn -/

/-- What each element of a list brings about, and no element undoes, holds after all of them. -/
theorem forEach_each {α : Type} {f : α → State → State} {P : α → State → Prop} (does : ∀ x s, P x (f x s))
    (keeps : ∀ x y s, P y s → P y (f x s)) (xs : List α) {x : α} (member : x ∈ xs) (s : State) :
    P x (forEach xs f s) := by
  induction xs generalizing s with
  | nil => exact (List.not_mem_nil member).elim
  | cons y rest ih =>
    rw [forEach_cons]
    obtain rfl | later := List.mem_cons.mp member
    · exact forEach_keeps (P := P x) (fun z t => keeps z x t) rest _ (does x s)
    · exact ih later _

section
variable {L : Ledger} {s : State}

theorem tables_moves {t : State} (same : t = { s with
      classes := t.classes, visitors := t.visitors, timers := t.timers, sites := t.sites, tones := t.tones
      clock := t.clock })
    (count : t.visitors.count = s.visitors.count) (timebase : t.clock.timebase = s.clock.timebase)
    (reading : t.clock.reading = s.clock.reading := by rfl) : Moves L s t := by
  rw [same]
  exact .of (.tables _ _ _ _ _ _ count timebase reading)

/-! ### The directory -/

theorem loadedRecord_fresh (body : List Byte) (k : ClassId) :
    (loadedRecord body k).inUse = false ∧ (loadedRecord body k).Judged :=
  ⟨rfl, Nat.zero_le _, nofun, fun _ => ⟨nofun, fun high => absurd (show 128 ≤ 0 from high) (by decide)⟩⟩

theorem loadEntry_moves (body : List Byte) : Moves .clear s (loadEntry body s).state := by
  unfold loadEntry
  split
  next r k _ _ =>
    dsimp only
    split
    · exact .refl
    · split
      · exact .refl
      next free =>
        split
        · exact .refl
        · split
          · exact .refl
          · have written : Moves .clear s (s.withRecord r (some (loadedRecord body k))) :=
              .of (.file r _ (fun x held => by simpa [held] using free)
                fun y same => Option.some.inj same ▸ loadedRecord_fresh body k)
            split
            · exact written.trans (post_moves ..)
            · exact written
  · exact .refl

theorem deleteEntry_moves (body : List Byte) : Moves .clear s (deleteEntry body s).state := by
  unfold deleteEntry
  split
  · exact .refl
  next r _ =>
    split
    · exact .refl
    next x held =>
      split
      · exact .refl
      next free =>
        refine .of (.file r none (fun y held' => ?_) fun y absent => (Option.some_ne_none y absent.symm).elim)
        obtain rfl : x = y := Option.some.inj (held.symm.trans held')
        simpa using free

theorem setStanding_moves (body : List Byte) : Moves L s (setStanding body s).state := by
  unfold setStanding
  split
  · exact .refl
  next r _ =>
    split
    · exact .refl
    · split
      · exact .refl
      next x held =>
        split
        · exact setStandingOf_moves held (fun _ => ⟨Nat.zero_le _, nofun, fun _ =>
            ⟨nofun, fun high => absurd (show 128 ≤ 0 from high) (by decide)⟩⟩) nofun
        · exact bar_moves held

theorem loadClass_moves (body : List Byte) : Moves L s (loadClass body s).state := by
  unfold loadClass
  split
  · exact .refl
  · split
    · exact .refl
    · exact (withClass_moves ..).trans (recomputeBand_moves _)

theorem loadVisitorRule_moves (body : List Byte) : Moves L s (loadVisitorRule body s).state := by
  unfold loadVisitorRule
  split
  · dsimp only
    split
    · exact .refl
    · exact tables_moves rfl rfl rfl
  · exact .refl

theorem setVisitorMasks_moves (body : List Byte) : Moves L s (setVisitorMasks body s).state := by
  unfold setVisitorMasks
  split
  · exact .refl
  · exact tables_moves rfl rfl rfl

/-! ### Engine levels, sites and contexts -/

theorem setEngineLevels_moves (body : List Byte) : Moves L s (setEngineLevels body s).state := by
  unfold setEngineLevels
  split
  · exact .refl
  · exact .of (.engine _ (engine_sound_congr rfl rfl rfl rfl))

theorem loadSite_moves (body : List Byte) : Moves L s (loadSite body s).state := by
  unfold loadSite
  split
  · exact .refl
  · dsimp only
    split
    · exact .refl
    · split
      · exact .refl
      · exact tables_moves rfl rfl rfl

theorem clearSite_moves (body : List Byte) : Moves L s (clearSite body s).state := by
  unfold clearSite
  split
  · exact .refl
  · split
    · exact .refl
    · exact tables_moves rfl rfl rfl

/-- What no policy check refuses (R104). -/
structure Opens (tie ext : SlotId) (site : SiteId) (o : Opening) (s : State) : Prop where
  free : lowestFree s = some o.context
  tieKind : (s.slot tie).kind = .tie
  unbound : (s.slot tie).boundContext = none
  extKind : (s.slot ext).kind = .extension
  admitted : (s.slot ext).admission = .admitted
  member : (s.slot ext).visitor = false
  index : (s.slot ext).boundIndex = some o.index
  number : (s.slot ext).number = some o.number
  record : ∃ y, s.record o.index = some y ∧ y.standing = .good
  allowed : classAllows (s.slot ext).admissionClass s = true
  known : (s.sites[site]).isSome = true
  room : (s.slot ext).partners.length < 4

theorem judgeOpen_ok {tie ext : SlotId} {site : SiteId} {o : Opening} (judged : judgeOpen tie ext site s = .ok o) :
    Opens tie ext site o s := by
  unfold judgeOpen at judged
  split at judged
  · cases judged
  next c free =>
    dsimp only at judged
    split at judged
    · cases judged
    next tieFree =>
      split at judged
      · cases judged
      next extReady =>
        split at judged
        next r n index number =>
          split at judged
          · cases judged
          next good =>
            split at judged
            · cases judged
            next cls =>
              split at judged
              · cases judged
              next site =>
                split at judged
                · cases judged
                next room =>
                  obtain rfl := Except.ok.inj judged
                  obtain ⟨kind, unbound⟩ := not_or.mp tieFree
                  obtain ⟨extKind, rest⟩ := not_or.mp extReady
                  obtain ⟨admitted, member⟩ := not_or.mp rest
                  obtain ⟨y, held, standing⟩ : ∃ y, s.record r = some y ∧ y.standing = .good := by
                    cases held : s.record r with
                    | none => simp [held] at good
                    | some y => exact ⟨y, rfl, by simpa [held] using good⟩
                  exact ⟨free, not_not.mp kind, by simpa using unbound, not_not.mp extKind, not_not.mp admitted,
                    by simpa using member, index, number, ⟨y, held, standing⟩, by simpa using cls,
                    by simpa [Option.isSome_iff_ne_none] using site, Nat.lt_of_not_le room⟩
        · cases judged

theorem lowestFree_free {c : ContextId} (found : lowestFree s = some c) : s.context c = none := by
  simpa using List.find?_some found

theorem openContext_moves {tie ext : SlotId} {site : SiteId} {o : Opening} (p : Profile) (opens : Opens tie ext site o s) :
    Moves .clear s (openContext tie ext site p o s) := by
  obtain ⟨y, held, standing⟩ := opens.record
  refine drawNonce_moves.trans ((Moves.of (.opens o.context
    (openedContext tie ext site p o (drawNonce s).engine.nonce s) y ((context_drawNonce ..).trans (lowestFree_free opens.free))
    nofun ?_ ?_ ?_ ?_ ?_ ?_ ((record_drawNonce ..).trans held) (by rw [standing]; decide))).trans (postJob_moves _))
  · exact (congrArg Slot.kind (slot_drawNonce ..)).trans opens.tieKind
  · exact (congrArg Slot.boundContext (slot_drawNonce ..)).trans opens.unbound
  · exact (congrArg Slot.kind (slot_drawNonce ..)).trans opens.extKind
  · exact (congrArg Slot.isAdmitted (slot_drawNonce ..)).trans ((isAdmitted_iff _).mpr (.inl opens.admitted))
  · exact (congrArg Slot.boundIndex (slot_drawNonce ..)).trans opens.index
  · exact (congrArg (fun r => r.partners.length) (slot_drawNonce ..)).trans_lt opens.room

theorem openPrivacy_moves (body : List Byte) : Moves .clear s (openPrivacy body s).state := by
  unfold openPrivacy
  split
  · split
    · exact .refl
    next judged => exact openContext_moves _ (judgeOpen_ok judged)
  · exact .refl

theorem closePrivacy_moves (body : List Byte) : Moves L s (closePrivacy body s).state := by
  unfold closePrivacy
  split
  · exact .refl
  · split
    · exact .refl
    · split
      · exact .refl
      · exact closeContext_moves ..

theorem rekey_moves (body : List Byte) : Moves L s (rekey body s).state := by
  unfold rekey
  split
  · exact .refl
  · split
    · exact startRekey_moves _
    · exact .refl

theorem readContext_moves (body : List Byte) : Moves L s (readContext body s).state := by
  unfold readContext
  split
  · exact .refl
  · split <;> exact .refl

theorem readDirectory_moves (body : List Byte) : Moves L s (readDirectory body s).state := by
  unfold readDirectory
  dsimp only
  split <;> exact .refl

/-! ### Events and call records -/

theorem setEventMask_moves (body : List Byte) : Moves L s (setEventMask body s).state := by
  unfold setEventMask
  split
  · exact .refl
  · exact .of (.events _ ⟨id, id⟩)

theorem readEvents_moves (body : List Byte) : Moves L s (readEvents body s).state := by
  unfold readEvents
  dsimp only
  split
  · exact .refl
  · refine .of (.events _ ⟨fun bound => ?_, nofun⟩)
    exact Nat.le_trans (by simp) bound

theorem readRecords_moves (body : List Byte) : Moves L s (readRecords body s).state := by
  unfold readRecords
  dsimp only
  split
  · exact .refl
  · refine .of (.records _ ⟨fun bound => ?_, fun _ some => absurd rfl some⟩)
    exact Nat.le_trans (by simp) bound

/-! ### Slots -/

theorem retime_quiet (n : Nat) (r : Slot) : r.Quiet (r.retime n) := { Slot.Quiet.refl r with }

theorem setSlot_moves (body : List Byte) : Moves .clear s (setSlot body s).state := by
  unfold setSlot
  split
  · exact .refl
  next i _ =>
    split
    · exact .refl
    next k _ =>
      split
      · exact .refl
      next unused =>
        dsimp only
        by_cases same : k = (s.slot i).kind
        · refine onSlot_moves (i := i) (f := fun r => if k = r.kind then
            r.retime (min (byteAt body 2) Config.filterLengthMax)
            else r.rekind k (min (byteAt body 2) Config.filterLengthMax)) ?_
          rw [if_pos same]
          exact retime_quiet ..
        · have written : onSlot i (fun r => if k = r.kind then r.retime (min (byteAt body 2) Config.filterLengthMax)
              else r.rekind k (min (byteAt body 2) Config.filterLengthMax)) s =
              onSlot i (Slot.rekind k (min (byteAt body 2) Config.filterLengthMax)) s :=
            congrArg (s.withSlot i) (if_neg same)
          exact (congrArg (Moves .clear s) written).mpr (.of (.rekind i k _ (by simpa using unused)))

theorem readSlot_moves (body : List Byte) : Moves L s (readSlot body s).state := by
  unfold readSlot
  split
  · exact .refl
  next i _ => exact onSlot_moves (i := i) (f := fun r => { r with garbled := 0 }) { Slot.Quiet.refl (s.slot i) with }

theorem forceSignOff_moves (body : List Byte) : Moves L s (forceSignOff body s).state := by
  unfold forceSignOff
  split
  · exact .refl
  · split
    · exact .refl
    · split
      · exact .refl
      · exact .refl
      · exact abandon_moves _
      · exact abandon_moves _
      · exact signOffSlot_moves ..
      · exact signOffSlot_moves ..

/-! ### Tones -/

theorem loadTone_moves (body : List Byte) : Moves L s (loadTone body s).state := by
  unfold loadTone
  split
  · exact .refl
  · split
    · exact .refl
    · split
      · exact tables_moves rfl rfl rfl
      · split
        · exact .refl
        · exact tables_moves rfl rfl rfl

theorem setToneFunctions_moves (body : List Byte) : Moves L s (setToneFunctions body s).state := by
  unfold setToneFunctions
  split
  · exact tables_moves rfl rfl rfl
  · exact .refl

theorem playTone_moves (body : List Byte) : Moves L s (playTone body s).state := by
  unfold playTone
  split
  next i d _ _ =>
    split
    · exact .refl
    · split
      · exact .refl
      next x _ => exact onSlot_moves (i := i) (f := fun r => (r.requestTone d x).2) (requestTone_quiet ..)
  · exact .refl

theorem stopTone_moves (body : List Byte) : Moves L s (stopTone body s).state := by
  unfold stopTone
  split
  · exact .refl
  next i _ =>
    split
    · exact .refl
    · split
      · exact .refl
      · split
        · refine onSlot_moves ?_
          split
          · exact endTone_quiet ..
          · exact .refl _
        · exact onSlot_moves (dropTones_quiet _)

/-! ### The part as a whole -/

theorem minuteDue_moves (due : Bool) : Moves L s { s with clock := { s.clock with minuteDue := due } } :=
  tables_moves rfl rfl rfl

theorem setTime_steps (body : List Byte) : Steps s (setTime body s).state := by
  unfold setTime
  split
  · exact .refl
  · dsimp only [ok, answerWith]
    exact (Steps.clock .refl
      { day := field16 body 0, hour := byteAt body 2, minute := byteAt body 3, second := byteAt body 4, frame := 0 }).moves
      recomputeBands_moves

theorem setTime_port (body : List Byte) : (setTime body s).state.port = s.port := by
  unfold setTime
  split
  · rfl
  · dsimp only [ok, answerWith]
    rw [(moves_frame (recomputeBands_moves (L := .clear))).2.1]

theorem minuteBoundary_moves : Moves L s (minuteBoundary s) := by
  unfold minuteBoundary
  split
  · exact (minuteDue_moves false).trans recomputeBands_moves
  · exact .refl

/-- A refusal hold that ends before its time. -/
theorem holdEnd_moves {i : SlotId} (hold : (s.slot i).admission = .hold) :
    Moves L s (onSlot i (fun r => { r with admission := .locked, refusalHold := none }) s) :=
  onSlot_moves { Slot.Quiet.refl (s.slot i) with
    admitted := by rw [Slot.isAdmitted, Slot.isAdmitted, hold]; rfl
    signing := by rw [Slot.signingOn, Slot.signingOn, hold]; rfl }

theorem releaseSlot_moves (i : SlotId) : Moves L s (releaseSlot i s) := by
  unfold releaseSlot
  dsimp only
  split
  next hold => exact (abandon_moves i).trans (holdEnd_moves hold)
  · exact abandon_moves i

theorem dropAllMessages_quiet (r : Slot) : r.Quiet r.dropAllMessages :=
  { Slot.Quiet.refl r with queue := fun _ => Nat.zero_le _ }

/-- Tones and messages of every slot are dropped (step 5 of R183). -/
def dropOutput (s : State) : State := { s with slots := mapTable (fun r => r.dropTones.dropAllMessages) s.slots }

theorem slot_dropOutput (s : State) (i : SlotId) : (dropOutput s).slot i = (s.slot i).dropTones.dropAllMessages :=
  slot_mapTable ..

theorem context_dropOutput (s : State) (c : ContextId) : (dropOutput s).context c = s.context c := rfl

theorem dropOutput_moves : Moves L s (dropOutput s) :=
  mapSlots_moves fun _ => (dropTones_quiet _).trans (dropAllMessages_quiet _)

/-- The first three steps of a soft reset (R183). -/
def releaseAll (close : CloseCause) (signOff : SignOffCause) (s : State) : State :=
  s |> forEach contextIds (sweepContext close) |> forEach slotIds (signOffSlot signOff) |> forEach slotIds releaseSlot

theorem softReset_eq (close : CloseCause) (signOff : SignOffCause) (s : State) : softReset close signOff s =
    dropOutput ((releaseAll close signOff s).withEngine (releaseAll close signOff s).engine.stop) := rfl

theorem releaseAll_moves (close : CloseCause) (signOff : SignOffCause) : Moves L s (releaseAll close signOff s) :=
  (forEach_moves (fun c _ => sweepContext_moves close c) ..).trans
    ((forEach_moves (fun i _ => signOffSlot_moves signOff i) ..).trans (forEach_moves (fun i _ => releaseSlot_moves i) ..))

theorem softReset_moves (close : CloseCause) (signOff : SignOffCause) : Moves L s (softReset close signOff s) :=
  softReset_eq close signOff s ▸
    (releaseAll_moves close signOff).trans ((Moves.of (.engine _ stop_sound)).trans dropOutput_moves)

end

end Sys2Proof.Machine
end

section
/-! SUPPORT. The changes of the Highway Interface keep its ranges, and the line side of a frame in steps
(01_highways_and_frame_timing). -/

namespace Sys2Proof.Machine

open Sys2Proof.Safety

section
variable {s : State}

/-! ### The ranges of the line side -/

/-- The ranges read the Highway Interface and the timebase alone. -/
theorem lineInRange_congr {t : State} (line : LineInRange s) (highway : t.highway = s.highway)
    (timebase : t.clock.timebase = s.clock.timebase) : LineInRange t := by
  constructor
  all_goals simp only [highway, timebase]
  exacts [line.good, line.miss, line.depth, line.slips, line.window, line.limit, line.store, line.hold, line.expiring,
    line.locking, line.losing]

/-- Moves leave the ranges as they stand. -/
theorem moves_lineInRange {a b : Ledger × State} (m : Relation.ReflTransGen Move a b) (line : LineInRange a.2) :
    LineInRange b.2 := by
  obtain ⟨highway, -, -, timebase, -⟩ := moves_frame m
  exact lineInRange_congr line highway timebase

/-- No loss hold timer runs outside LOST (R11). -/
theorem lossHold_none (line : LineInRange s) (timing : s.highway.timing ≠ .lost) : s.highway.lossHold = none := by
  cases hold : s.highway.lossHold with
  | none => rfl
  | some x => exact absurd (line.hold x hold).1 timing

/-- Before the pulse count of a frame neither entry is due (R6, R7). -/
theorem nothing_due (line : LineInRange s) (fresh : s.highway.observed = false) :
    s.highway.lockDue = false ∧ s.highway.lossDue = false := by
  constructor
  · by_contra due
    exact absurd ((line.locking (by simpa using due)).2.2.symm.trans fresh) (by decide)
  · by_contra due
    exact absurd ((line.losing (by simpa using due)).2.symm.trans fresh) (by decide)

/-! ### The pulse count -/

theorem deliver_fields (arrivals : List SlotWords) (h : Highway) : (h.deliver arrivals).2 = { h with
    store := (h.deliver arrivals).2.store, depth := (h.deliver arrivals).2.depth
    delivered := (h.deliver arrivals).2.delivered, lineWords := (h.deliver arrivals).2.lineWords } := by
  unfold Highway.deliver
  dsimp only
  split <;> rfl

/-- The store holds as many frames as the depth says, and no more than two (R13). -/
theorem deliver_depth {arrivals : List SlotWords} {h : Highway} (few : arrivals.length ≤ 2) (depth : h.depth ≤ 2)
    (store : h.store.length = h.depth) :
    (h.deliver arrivals).2.depth ≤ 2 ∧ (h.deliver arrivals).2.store.length = (h.deliver arrivals).2.depth := by
  unfold Highway.deliver
  dsimp only
  split
  · exact ⟨Nat.zero_le _, rfl⟩
  · by_cases slips : 4 ≤ h.depth + arrivals.length
    · simp [slips]
      omega
    · simp [slips]
      omega

theorem raise_le (bound n : Nat) : raise bound n ≤ bound := Nat.min_le_right ..

theorem observe_lineInRange {arrivals : List SlotWords} (few : arrivals.length ≤ 2)
    (fresh : s.highway.observed = false) (line : LineInRange s) :
    LineInRange (s.withHighway (s.highway.observe arrivals).2) := by
  obtain ⟨lock, loss⟩ := nothing_due line fresh
  have missed : raise Config.missRunMax s.highway.missRun ≤ 16 := raise_le ..
  have delivered (h : Highway) (timing : h.timing = .locked) (depth : h.depth = s.highway.depth)
      (store : h.store = s.highway.store) (hold : h.lossHold = none) (good : h.goodCount ≤ 64) (miss : h.missRun ≤ 16)
      (slips : h.slipCount = s.highway.slipCount) (window : h.lossWindow = s.highway.lossWindow)
      (limit : h.lossHoldLimit = s.highway.lossHoldLimit) (lock : h.lockDue = false) (loss : h.lossDue = false)
      (locked : s.highway.timing = .locked) :
      LineInRange (s.withHighway (h.deliver arrivals).2) := by
    obtain ⟨depth', store'⟩ := deliver_depth (h := h) few (depth ▸ line.depth) (by
      rw [store, depth]
      exact line.store locked)
    constructor
    all_goals simp only [withHighway_highway, withHighway_clock]
    · rw [deliver_fields]; exact good
    · rw [deliver_fields]; exact miss
    · exact depth'
    · rw [deliver_fields]; exact slips ▸ line.slips
    · rw [deliver_fields]; exact window ▸ line.window
    · rw [deliver_fields]; exact limit ▸ line.limit
    · exact fun _ => store'
    · rw [deliver_fields]; exact fun x held => absurd (hold.symm.trans held) (by simp)
    · rw [deliver_fields]; exact fun x held => absurd (hold.symm.trans held) (by simp)
    · rw [deliver_fields]; exact fun due => absurd (lock.symm.trans due) (by decide)
    · rw [deliver_fields]; exact fun due => absurd (loss.symm.trans due) (by decide)
  unfold Highway.observe
  dsimp only
  split
  next lost =>
    split
    · exact ⟨show 1 ≤ 64 by decide, Nat.zero_le _, line.depth, line.slips, line.window, line.limit, nofun,
        fun _ held => (Option.some_ne_none _ held.symm).elim, fun _ held => (Option.some_ne_none _ held.symm).elim,
        fun due => absurd (lock.symm.trans due) (by decide), fun due => absurd (loss.symm.trans due) (by decide)⟩
    · exact ⟨line.good, missed, line.depth, line.slips, line.window, line.limit, line.store, line.hold, line.expiring,
        fun due => absurd (lock.symm.trans due) (by decide), fun due => absurd (loss.symm.trans due) (by decide)⟩
  next unstable =>
    have none := lossHold_none line (by rw [unstable]; decide)
    split
    · exact ⟨raise_le .., Nat.zero_le _, line.depth, line.slips, line.window, line.limit, line.store, line.hold,
        line.expiring, fun _ => ⟨unstable, loss, rfl⟩, fun due => absurd (loss.symm.trans due) (by decide)⟩
    · exact ⟨Nat.zero_le _, missed, line.depth, line.slips, line.window, line.limit, line.store, line.hold,
        line.expiring, fun due => absurd (lock.symm.trans due) (by decide),
        fun _ => ⟨fun lost => absurd (unstable.symm.trans lost) (by decide), rfl⟩⟩
  next locked =>
    have none := lossHold_none line (by rw [locked]; decide)
    split
    · exact delivered _ locked rfl rfl none line.good (Nat.zero_le _) rfl rfl rfl lock loss locked
    · split
      · exact ⟨line.good, missed, line.depth, line.slips, line.window, line.limit, line.store, line.hold,
          line.expiring, fun due => absurd (lock.symm.trans due) (by decide),
          fun _ => ⟨fun lost => absurd (locked.symm.trans lost) (by decide), rfl⟩⟩
      · exact delivered _ locked rfl rfl none line.good missed rfl rfl rfl lock loss locked

/-! ### The line side in steps -/

theorem postUnstable_moves {L : Ledger} (before : Timing) : Moves L s (postUnstable before s) := by
  unfold postUnstable
  split
  · exact post_moves ..
  · exact .refl

theorem slip_steps (k : Slip) : Steps s (slip k s) := by
  have counted : Steps s (s.withHighway { s.highway with slipCount := raise Config.count16Max s.highway.slipCount }) :=
    .highway .refl _ fun line => ⟨line.good, line.miss, line.depth, raise_le .., line.window, line.limit, line.store,
      line.hold, line.expiring, line.locking, line.losing⟩
  exact counted.moves ((post_moves ..).trans slipped_moves)

theorem observeLine_steps {arrivals : List SlotWords} (few : arrivals.length ≤ 2) (judgedFirst : List ContextId) :
    Steps s (observeLine arrivals judgedFirst s) := by
  unfold observeLine
  split
  · exact .refl
  next fresh =>
    dsimp only
    have judged : Steps s (s.withHighway (s.highway.observe arrivals).2
        |> postUnstable s.highway.timing |> superviseSlots |> takeWords (judgedFirst.contains ·)
        |> forEach judgedFirst judgeMarkers) :=
      (Steps.highway .refl _ (observe_lineInRange few (by simpa using fresh))).moves
        ((postUnstable_moves _).trans (superviseSlots_moves.trans ((takeWords_moves _).trans
          (forEach_moves (fun c _ => judgeMarkers_moves c) _ _))))
    split
    · exact (judged.trans (slip_steps _)).moves ((takeWords_moves _).trans takeNibbles_moves)
    · exact judged.moves ((takeWords_moves _).trans takeNibbles_moves)

theorem entryToLocked_steps : Steps s (entryToLocked s) := by
  unfold entryToLocked
  split
  next due =>
    have locked : Steps s (s.withHighway { s.highway with
        timing := .locked, lockDue := false, entered := true, depth := 1, store := [s.highway.latest] }) :=
      .highway .refl _ fun line => by
        obtain ⟨unstable, loss, -⟩ := line.locking due
        have hold := lossHold_none line (by rw [unstable]; decide)
        exact ⟨line.good, line.miss, show 1 ≤ 2 by decide, line.slips, line.window, line.limit, fun _ => rfl,
          fun x held => (Option.some_ne_none x (held.symm.trans hold)).elim,
          fun x held => (Option.some_ne_none x (held.symm.trans hold)).elim, nofun,
          fun losing => absurd (loss.symm.trans losing) (by decide)⟩
    exact (locked.trans (slip_steps .realign)).moves (post_moves ..)
  · exact .refl

theorem loseLine_moves {L : Ledger} : Moves L s { s with slots := mapTable Slot.loseLine s.slots } :=
  mapSlots_moves fun r => { Slot.Quiet.refl r with }

theorem entryToLost_steps : Steps s (entryToLost s) := by
  unfold entryToLost
  split
  next due =>
    have lost : Steps s (s.withHighway { s.highway with
        timing := .lost, goodCount := 0, lossDue := false, lossHold := some { elapsed := 0, due := false } }) :=
      .highway .refl _ fun line =>
        ⟨Nat.zero_le _, line.miss, line.depth, line.slips, line.window, line.limit, nofun,
          fun x held => ⟨rfl, Option.some.inj held ▸ Nat.zero_le _⟩,
          fun x held full => by
            obtain rfl := Option.some.inj held
            exact absurd (show 0 = 64000 from full) (by decide),
          fun lock => absurd ((line.locking lock).2.1.symm.trans due) (by decide), nofun⟩
    exact lost.moves ((post_moves ..).trans (loseLine_moves.trans
      ((forEach_moves (fun i _ => abandon_moves i) _ _).trans slipped_moves)))
  · exact .refl

theorem lossHoldExpiry_steps : Steps s (lossHoldExpiry s) := by
  unfold lossHoldExpiry
  split
  next due =>
    have stopped : Steps s (s.withHighway { s.highway with lossHold := none }) :=
      .highway .refl _ fun line =>
        ⟨line.good, line.miss, line.depth, line.slips, line.window, line.limit, line.store,
          fun _ held => (Option.some_ne_none _ held.symm).elim,
          fun _ held => (Option.some_ne_none _ held.symm).elim, line.locking, line.losing⟩
    exact stopped.moves ((forEach_moves (fun c _ => sweepContext_moves _ c) _ _).trans
      ((forEach_moves (fun i _ => signOffSlot_moves _ i) _ _).trans (post_moves ..)))
  · exact .refl

theorem sendWords_steps : Steps s (sendWords s) :=
  .highway .refl _ fun line => ⟨line.good, line.miss, line.depth, line.slips, line.window, line.limit, line.store,
    line.hold, line.expiring, line.locking, line.losing⟩

end

end Sys2Proof.Machine
end

section
/-! SUPPORT. The Maintenance Port, the end of a frame and the frame pulse in steps, and what every command is. -/

namespace Sys2Proof.Machine

open Sys2Proof.Safety

section
variable {s : State}

/-! ### What an erase leaves -/

theorem slot_clearPending_with (i : SlotId) (p : Job → Bool) (j : SlotId) (s : State) :
    (clearPending i (withdraw p s)).slot j = s.slot j := (slot_clearPending i j _).trans (slot_withdraw ..)

theorem slot_abandon (i j : SlotId) (s : State) : (abandon i s).slot j =
    if i = j ∧ (s.slot i).signingOn = true then
      { s.slot j with admission := .locked, responseTimer := none, challenge := none }
    else s.slot j := by
  by_cases signing : (s.slot i).signingOn = true
  · have ended : abandon i s = onSlot i
        (fun r => { r with admission := .locked, responseTimer := none, challenge := none })
        (clearPending i (withdraw (Job.isVerifyOf i) s)) := if_pos signing
    rw [ended, slot_onSlot, slot_clearPending_with, slot_clearPending_with]
    by_cases same : i = j
    · rw [if_pos same, if_pos ⟨same, signing⟩, same]
    · rw [if_neg same, if_neg fun both => same both.1]
  · rw [abandon_idle (by simpa using signing), if_neg fun both => signing both.2]

theorem context_clearPending (i : SlotId) (c : ContextId) (s : State) : (clearPending i s).context c = s.context c := by
  unfold clearPending
  split <;> rfl

theorem context_abandon (i : SlotId) (c : ContextId) (s : State) : (abandon i s).context c = s.context c := by
  by_cases signing : (s.slot i).signingOn = true
  · have ended : abandon i s = onSlot i
        (fun r => { r with admission := .locked, responseTimer := none, challenge := none })
        (clearPending i (withdraw (Job.isVerifyOf i) s)) := if_pos signing
    rw [ended, onSlot, context_withSlot, context_clearPending, context_withdraw]
  · rw [abandon_idle (by simpa using signing)]

theorem context_signOffSlot (cause : SignOffCause) (i : SlotId) (c : ContextId) (s : State) :
    (signOffSlot cause i s).context c = if (s.slot i).isAdmitted then (partCalls i s).context c else s.context c := by
  by_cases admitted : (s.slot i).isAdmitted = true
  · rw [if_pos admitted, signOffSlot_admitted admitted, releaseAdmission_quieted, context_post]
    unfold releaseAdmission
    split
    · rfl
    · split <;> rfl
  · rw [if_neg admitted, signOffSlot_not_admitted (by simpa using admitted)]

theorem closes_context_none {t : State} {c : ContextId} (closes : Closes s t) (free : s.context c = none) :
    t.context c = none := by
  cases held : t.context c with
  | none => rfl
  | some y =>
    obtain ⟨x, held', -⟩ := closes.context c y held
    exact absurd (free.symm.trans held') (by simp)

theorem signOffSlot_context_none {cause : SignOffCause} {i : SlotId} {c : ContextId} (free : s.context c = none) :
    (signOffSlot cause i s).context c = none := by
  rw [context_signOffSlot]
  split
  · exact closes_context_none (partCalls_closes i s) free
  · exact free

theorem freeContext_context (c : ContextId) : (freeContext c s).context c = none := by
  cases held : s.context c with
  | none =>
    unfold freeContext
    rw [held]
    exact held
  | some x =>
    rw [freeContext_eq held, privacyOff_context]
    exact afterFree_context ..

theorem freeQuietly_context (c : ContextId) : (freeQuietly c s).context c = none := by
  cases held : s.context c with
  | none =>
    unfold freeQuietly
    rw [held]
    exact held
  | some x =>
    rw [freeQuietly_eq held]
    exact afterFree_context ..

/-- A close with a silent cause frees the context (R11, R119). -/
theorem sweepContext_context {cause : CloseCause} (silent : cause.silent = true) (c : ContextId) :
    (sweepContext cause c s).context c = none := by
  unfold sweepContext
  split
  next free => exact free
  next x held =>
    split
    · split
      · exact freeQuietly_context c
      · exact freeContext_context c
    next live =>
      obtain ⟨closing, -⟩ | ⟨y, -, -, ⟨-, loud, -⟩ | ⟨-, frees⟩⟩ := closeContext_cases c cause s
      · exact absurd (closing x held) live
      · exact absurd (silent.symm.trans loud) (by decide)
      · rw [frees]
        exact freeContext_context c

theorem releaseSlot_slot_other {i j : SlotId} (other : i ≠ j) : (releaseSlot i s).slot j = s.slot j := by
  have kept : (abandon i s).slot j = s.slot j := (slot_abandon i j s).trans (if_neg fun both => other both.1)
  unfold releaseSlot
  dsimp only
  split
  · rw [slot_onSlot, if_neg other, kept]
  · exact kept

/-- A released slot is not signing on, and is admitted only if it was. -/
theorem releaseSlot_slot_self (i : SlotId) : ((releaseSlot i s).slot i).signingOn = false ∧
    ((s.slot i).isAdmitted = false → ((releaseSlot i s).slot i).isAdmitted = false) := by
  have idle : ((abandon i s).slot i).signingOn = false ∧
      ((s.slot i).isAdmitted = false → ((abandon i s).slot i).isAdmitted = false) := by
    rw [slot_abandon]
    by_cases signing : (s.slot i).signingOn = true
    · rw [if_pos ⟨rfl, signing⟩]
      exact ⟨rfl, fun _ => rfl⟩
    · rw [if_neg fun both => signing both.2]
      exact ⟨by simpa using signing, id⟩
  unfold releaseSlot
  dsimp only
  split
  · rw [slot_onSlot, if_pos rfl]
    exact ⟨rfl, fun _ => rfl⟩
  · exact idle

theorem context_releaseSlot (i : SlotId) (c : ContextId) : (releaseSlot i s).context c = s.context c := by
  unfold releaseSlot
  dsimp only
  split
  · exact (show (onSlot i _ (abandon i s)).context c = (abandon i s).context c from rfl).trans (context_abandon ..)
  · exact context_abandon ..

theorem context_swept {close : CloseCause} (silent : close.silent = true) (c : ContextId) :
    (forEach contextIds (sweepContext close) s).context c = none :=
  forEach_each (P := fun c t => t.context c = none) (fun c _ => sweepContext_context silent c)
    (fun d _ _ free => closes_context_none (sweepContext_closes close d) free) _ (List.mem_finRange c) s

theorem context_releaseAll {close : CloseCause} (silent : close.silent = true) (signOff : SignOffCause) (c : ContextId) :
    (releaseAll close signOff s).context c = none :=
  forEach_keeps (P := fun t => t.context c = none) (fun i t free => (context_releaseSlot (s := t) i c).trans free) _ _
    (forEach_keeps (P := fun t => t.context c = none) (fun _ _ free => signOffSlot_context_none free) _ _
      (context_swept silent c))

/-- Sign-offs along a list leave each of its slots not admitted. -/
theorem forEach_signOffSlot_isAdmitted (signOff : SignOffCause) {is : List SlotId} {i : SlotId} (member : i ∈ is) :
    ((forEach is (signOffSlot signOff) s).slot i).isAdmitted = false :=
  forEach_each (P := fun i t => (t.slot i).isAdmitted = false) (fun i _ => signOffSlot_isAdmitted_self signOff)
    (fun j i t out => by
      by_cases same : i = j
      · exact same ▸ signOffSlot_isAdmitted_self signOff
      · rw [(signOffSlot_slot_other signOff same).rest]
        exact out) _ member s

theorem releaseAll_idle (close : CloseCause) (signOff : SignOffCause) (i : SlotId) :
    ((releaseAll close signOff s).slot i).signingOn = false :=
  forEach_each (P := fun i t => (t.slot i).signingOn = false) (fun i _ => (releaseSlot_slot_self i).1)
    (fun j i t idle => by
      by_cases same : j = i
      · exact same ▸ (releaseSlot_slot_self j).1
      · rw [releaseSlot_slot_other same]
        exact idle) _ (List.mem_finRange i) _

theorem releaseAll_out (close : CloseCause) (signOff : SignOffCause) (i : SlotId) :
    ((releaseAll close signOff s).slot i).isAdmitted = false :=
  forEach_keeps (P := fun t => (t.slot i).isAdmitted = false) (fun j t out => by
    by_cases same : j = i
    · exact same ▸ (releaseSlot_slot_self j).2 (same ▸ out)
    · rw [releaseSlot_slot_other same]
      exact out) _ _ (forEach_signOffSlot_isAdmitted signOff (List.mem_finRange i))

theorem slot_softReset (close : CloseCause) (signOff : SignOffCause) (i : SlotId) :
    (softReset close signOff s).slot i = ((releaseAll close signOff s).slot i).dropTones.dropAllMessages := by
  rw [softReset_eq, slot_dropOutput, slot_withEngine]

/-- A soft reset leaves no slot admitted or signing on (R183). -/
theorem softReset_alone (close : CloseCause) (signOff : SignOffCause) (i : SlotId) :
    ((softReset close signOff s).slot i).isAdmitted = false ∧
      ((softReset close signOff s).slot i).signingOn = false := by
  rw [slot_softReset]
  have quiet (r : Slot) := (dropTones_quiet r).trans (dropAllMessages_quiet _)
  exact ⟨(quiet _).admitted.trans (releaseAll_out close signOff i),
    (quiet _).signing.trans (releaseAll_idle close signOff i)⟩

/-- A soft reset leaves no context (R183). -/
theorem context_softReset {close : CloseCause} (silent : close.silent = true) (signOff : SignOffCause) (c : ContextId) :
    (softReset close signOff s).context c = none := by
  rw [softReset_eq, context_dropOutput, context_withEngine]
  exact context_releaseAll silent signOff c

/-- The directory and the site table emptied (R184). -/
def eraseTables (s : State) : State :=
  { s with directory := Vector.replicate 512 none, sites := Vector.replicate 32 none }

theorem eraseSecrets_eq (body : List Byte) (s : State) :
    eraseSecrets body s = ok (eraseTables (softReset .erased .erased s)) := rfl

theorem eraseTables_moves (alone : ∀ i, (s.slot i).isAdmitted = false ∧ (s.slot i).signingOn = false)
    (closed : ∀ c, s.context c = none) : Moves .clear s (eraseTables s) :=
  (Moves.of (.erase alone closed)).trans (tables_moves rfl rfl rfl)

theorem eraseSecrets_moves (body : List Byte) : Moves .clear s (eraseSecrets body s).state := by
  have erased := eraseTables_moves (s := softReset .erased .erased s) (softReset_alone .erased .erased)
    (context_softReset rfl .erased)
  rw [eraseSecrets_eq]
  exact (softReset_moves .erased .erased).trans erased

/-! ### Requests -/

/-- A request acts in steps, and leaves the port to its caller. -/
def Acts (act : List Byte → State → Answer) : Prop :=
  ∀ body t, Steps t (act body t).state ∧ (act body t).state.port = t.port

theorem acts_of_moves {act : List Byte → State → Answer} (moves : ∀ body t, Moves .clear t (act body t).state) :
    Acts act := fun body t => ⟨.of (moves body t), (moves_frame (moves body t)).2.1⟩

theorem clamp_range {low high : Nat} (sane : low ≤ high) (v : Nat) : low ≤ clamp low high v ∧ clamp low high v ≤ high := by
  unfold clamp
  omega

theorem setTimers_acts : Acts setTimers := by
  refine fun body t => ⟨?_, rfl⟩
  let timers : Timers :=
    { responseTimeout := clamp 400 16000 (field16 body 0), refusalHold := min (field24 body 2) 240000 }
  have timed : Steps t { t with timers := timers } := .of (tables_moves rfl rfl rfl)
  exact timed.highway _ fun line => ⟨line.good, line.miss, line.depth, line.slips, clamp_range (by decide) _,
    clamp_range (by decide) _, line.store, line.hold, line.expiring, line.locking, line.losing⟩

theorem offer_steps {code : Byte} {act : State → Answer}
    (acts : ∀ t, Steps t (act t).state ∧ (act t).state.port = t.port) : Steps s (offer code act s) := by
  have hunting : Steps s (huntPort s) := .port .refl _ id
  obtain ⟨-, full⟩ | ⟨room, acted⟩ := offer_cases code act s
  · rw [full]
    exact hunting.port _ id
  · rw [acted]
    obtain ⟨steps, port⟩ := acts (huntPort s)
    refine (hunting.trans steps).port _ fun _ => ?_
    have count : (act (huntPort s)).state.port.holding.length < 2 := by
      rw [port]
      exact room
    simpa using count

theorem request_steps {code : Byte} {size : Nat} {act : List Byte → State → Answer} (acts : Acts act)
    (body : List Byte) : Steps s (request code size act body s) :=
  offer_steps fun t => by
    split
    · exact acts body t
    · exact ⟨.refl, rfl⟩

theorem unknownRequest_steps (code : Byte) : Steps s (unknownRequest code s) := offer_steps fun _ => ⟨.refl, rfl⟩

theorem getStatus_acts : Acts getStatus := fun _ _ => ⟨.refl, rfl⟩
theorem setTime_acts : Acts setTime := fun body _ => ⟨setTime_steps body, setTime_port body⟩
theorem resetPart_acts : Acts resetPart := acts_of_moves fun _ _ => softReset_moves ..
theorem eraseSecrets_acts : Acts eraseSecrets := acts_of_moves fun body _ => eraseSecrets_moves body
theorem setSlot_acts : Acts setSlot := acts_of_moves fun body _ => setSlot_moves body
theorem readSlot_acts : Acts readSlot := acts_of_moves fun body _ => readSlot_moves body
theorem forceSignOff_acts : Acts forceSignOff := acts_of_moves fun body _ => forceSignOff_moves body
theorem loadEntry_acts : Acts loadEntry := acts_of_moves fun body _ => loadEntry_moves body
theorem deleteEntry_acts : Acts deleteEntry := acts_of_moves fun body _ => deleteEntry_moves body
theorem readDirectory_acts : Acts readDirectory := acts_of_moves fun body _ => readDirectory_moves body
theorem setStanding_acts : Acts setStanding := acts_of_moves fun body _ => setStanding_moves body
theorem loadClass_acts : Acts loadClass := acts_of_moves fun body _ => loadClass_moves body
theorem loadVisitorRule_acts : Acts loadVisitorRule := acts_of_moves fun body _ => loadVisitorRule_moves body
theorem setVisitorMasks_acts : Acts setVisitorMasks := acts_of_moves fun body _ => setVisitorMasks_moves body
theorem setEngineLevels_acts : Acts setEngineLevels := acts_of_moves fun body _ => setEngineLevels_moves body
theorem loadSite_acts : Acts loadSite := acts_of_moves fun body _ => loadSite_moves body
theorem clearSite_acts : Acts clearSite := acts_of_moves fun body _ => clearSite_moves body
theorem openPrivacy_acts : Acts openPrivacy := acts_of_moves fun body _ => openPrivacy_moves body
theorem closePrivacy_acts : Acts closePrivacy := acts_of_moves fun body _ => closePrivacy_moves body
theorem rekey_acts : Acts rekey := acts_of_moves fun body _ => rekey_moves body
theorem readContext_acts : Acts readContext := acts_of_moves fun body _ => readContext_moves body
theorem loadTone_acts : Acts loadTone := acts_of_moves fun body _ => loadTone_moves body
theorem setToneFunctions_acts : Acts setToneFunctions := acts_of_moves fun body _ => setToneFunctions_moves body
theorem playTone_acts : Acts playTone := acts_of_moves fun body _ => playTone_moves body
theorem stopTone_acts : Acts stopTone := acts_of_moves fun body _ => stopTone_moves body
theorem setEventMask_acts : Acts setEventMask := acts_of_moves fun body _ => setEventMask_moves body
theorem readEvents_acts : Acts readEvents := acts_of_moves fun body _ => readEvents_moves body
theorem readRecords_acts : Acts readRecords := acts_of_moves fun body _ => readRecords_moves body

theorem performRequest_steps (code : Byte) (body : List Byte) : Steps s (performRequest code body s) := by
  unfold performRequest
  generalize code.toNat = n
  split
  · exact request_steps getStatus_acts body
  · exact request_steps setTime_acts body
  · exact request_steps setTimers_acts body
  · exact request_steps resetPart_acts body
  · exact request_steps eraseSecrets_acts body
  · exact request_steps setSlot_acts body
  · exact request_steps readSlot_acts body
  · exact request_steps forceSignOff_acts body
  · exact request_steps loadEntry_acts body
  · exact request_steps deleteEntry_acts body
  · exact request_steps readDirectory_acts body
  · exact request_steps setStanding_acts body
  · exact request_steps loadClass_acts body
  · exact request_steps loadVisitorRule_acts body
  · exact request_steps setVisitorMasks_acts body
  · exact request_steps setEngineLevels_acts body
  · exact request_steps loadSite_acts body
  · exact request_steps clearSite_acts body
  · exact request_steps openPrivacy_acts body
  · exact request_steps closePrivacy_acts body
  · exact request_steps rekey_acts body
  · exact request_steps readContext_acts body
  · exact request_steps loadTone_acts body
  · exact request_steps setToneFunctions_acts body
  · exact request_steps playTone_acts body
  · exact request_steps stopTone_acts body
  · exact request_steps setEventMask_acts body
  · exact request_steps readEvents_acts body
  · exact request_steps readRecords_acts body
  · exact unknownRequest_steps code

/-! ### The port in a frame -/

/-- A change of the port that leaves the holding buffer. -/
theorem port_steps (p : Port) (holding : p.holding = s.port.holding) : Steps s (s.withPort p) :=
  .port .refl p fun bound => by rwa [holding]

theorem rejectMessage_steps : Steps s (rejectMessage s) := port_steps _ rfl

theorem takeByte_steps (b : Byte) : Steps s (takeByte b s) := by
  unfold takeByte
  dsimp only
  split
  · split <;> exact port_steps _ rfl
  · exact port_steps _ rfl
  · split
    · exact port_steps _ rfl
    · exact rejectMessage_steps
  · split <;> exact port_steps _ rfl
  · exact port_steps _ rfl
  · split
    · exact performRequest_steps ..
    · exact rejectMessage_steps

theorem takeDownstream_steps (w : Word) : Steps s (takeDownstream w s) := (takeByte_steps _).trans (takeByte_steps _)

theorem beginUpstream_steps (first idleWordLast : Bool) : Steps s (beginUpstream first idleWordLast s) := by
  unfold beginUpstream
  split
  · split <;> exact port_steps _ rfl
  · exact port_steps _ rfl

theorem responseStart_steps : Steps s (responseStart s) := by
  unfold responseStart
  split
  · exact port_steps _ rfl
  · exact .refl

theorem responseEnd_steps : Steps s (responseEnd s) := by
  unfold responseEnd
  split
  · refine .port .refl _ fun bound => ?_
    exact Nat.le_trans (by simp) bound
  · exact .refl

theorem formIdleWord_steps : Steps s (formIdleWord s) := by
  unfold formIdleWord
  split
  · exact port_steps _ rfl
  · exact .refl

/-! ### The end of a frame -/

/-- The events of a frame's end before the loss hold (log entry 1). -/
def closeEvents (s : State) : State :=
  s |> observeLine [] []
    |> entryToLocked
    |> entryToLost
    |> forEach slotIds filteredCodeChange
    |> minuteBoundary
    |> deliverKeys
    |> engineSelect
    |> forEach slotIds slotTimers
    |> forEach contextIds descramblerEvents
    |> forEach contextIds huntTimeout
    |> forEach contextIds scramblerEvents
    |> forEach contextIds guardEvents
    |> forEach slotIds expiringIdleSignOff

/-- What a frame's end sends. -/
def closeOutput (s : State) : State :=
  s |> forEach slotIds slotOutput |> responseStart |> responseEnd |> formIdleWord |> sendWords

theorem closeFrame_eq (s : State) : closeFrame s = closeOutput (lossHoldExpiry (closeEvents s)) := rfl

theorem closeEvents_steps : Steps s (closeEvents s) := by
  have line : Steps s (s |> observeLine [] [] |> entryToLocked |> entryToLost) :=
    ((observeLine_steps (Nat.zero_le _) []).trans entryToLocked_steps).trans entryToLost_steps
  refine line.moves ((forEach_moves (fun i _ => filteredCodeChange_moves i) _ _).trans (minuteBoundary_moves.trans
    ((verifyDelivery_moves.trans (txKeyDelivery_moves.trans rxKeyDelivery_moves)).trans (engineSelect_moves.trans
    ((forEach_moves (fun i _ => (responseTimeout_moves i).trans (refusalHoldEnd_moves i)) _ _).trans
    ((forEach_moves (fun c _ => (markerFrame_moves c).trans ((huntMarkerFound_moves c).trans (blockRestore_moves c)))
      _ _).trans
    ((forEach_moves (fun c _ => huntTimeout_moves c) _ _).trans
    ((forEach_moves (fun c _ => (blockBoundary_moves c).trans
      ((rekeyIntervalExpiry_moves c).trans (contextFree_moves c))) _ _).trans
    ((forEach_moves (fun c _ => (clearGuardExpiry_moves c .extension).trans (clearGuardExpiry_moves c .tie)) _ _).trans
    (forEach_moves (fun i _ => expiringIdleSignOff_moves i) _ _))))))))))

theorem closeOutput_steps : Steps s (closeOutput s) :=
  ((((Steps.of (forEach_moves (fun i _ => slotOutput_moves i) _ _)).trans responseStart_steps).trans
    responseEnd_steps).trans formIdleWord_steps).trans sendWords_steps

theorem closeFrame_steps : Steps s (closeFrame s) :=
  closeFrame_eq s ▸ (closeEvents_steps.trans lossHoldExpiry_steps).trans closeOutput_steps

/-! ### The frame pulse -/

/-- The clock and the Highway Interface at a frame pulse. -/
def pulseTaken (pulse : ExchangePulse) (s : State) : State :=
  { s with clock := s.clock.beginFrame, highway := s.highway.beginFrame pulse.words }

theorem Context.beginFrame_quiet (received : SlotWords) (x : Context) : x.Quiet (x.beginFrame received) := by
  refine ⟨rfl, rfl, rfl, fun settled => ⟨fun closing => ?_, id⟩⟩
  have state : (x.beginFrame received).scrambler.state = x.scrambler.state := by
    unfold Context.beginFrame Scrambler.collect
    dsimp only
    split <;> rfl
  exact state.trans (settled closing)

theorem beginFrame_steps (pulse : ExchangePulse) : Steps (pulseTaken pulse s) (beginFrame pulse s) := by
  have slots : Moves .clear (pulseTaken pulse s) _ := mapSlots_moves (Slot.beginFrame_quiet s.timers)
  have contexts := slots.trans (mapContexts_moves (L := .clear) (Context.beginFrame_quiet pulse.words))
  have engine := contexts.trans (Moves.of (L := .clear) (Move.engine s.engine.beginFrame beginFrame_sound))
  exact ((Steps.of engine).trans (beginUpstream_steps ..)).trans (takeDownstream_steps _)

/-! ### Commands -/

/-- What a command does: steps, a frame pulse, the stop of the pulse, or power. -/
inductive Outcome (s : State) : State → Prop
  | steps {t} (steps : Steps s t) : Outcome s t
  | pulse (p : ExchangePulse) : Outcome s (exchangeFrame p s)
  | stop : Outcome s (framePulseStop s)
  | power : Outcome s { State.reset with pending := s.pending }

theorem whileRunning_outcome {f : State → State} {t : State} (steps : Steps s (f s))
    (ran : whileRunning f s = .next t) : Outcome s t := by
  unfold whileRunning at ran
  obtain rfl := Host.Outcome.next.inj ran
  split
  · exact .steps .refl
  · exact .steps steps

theorem exec_outcome {c : Instr} {t : State} (ran : exec c s = .next t) : Outcome s t := by
  have moves {f : State → State} (m : Moves .clear s (f s)) (ran : whileRunning f s = .next t) : Outcome s t :=
    whileRunning_outcome (.of m) ran
  have arrives {i : SlotId} {f : State → State}
      (acts : ∀ t : State, (t.slot i).kind = .extension → Moves .clear t (f t))
      (ran : whileRunning (onArrival i f) s = .next t) : Outcome s t :=
    whileRunning_outcome (.of (onArrival_moves acts)) ran
  have requests {code : Byte} {size : Nat} {act : List Byte → State → Answer} (acts : Acts act) (body : List Byte)
      (ran : whileRunning (request code size act body) s = .next t) : Outcome s t :=
    whileRunning_outcome (request_steps acts body) ran
  cases c with
  | powerOn => exact Host.Outcome.next.inj ran ▸ .power
  | resetPin => exact Host.Outcome.next.inj ran ▸ .power
  | framePulseStop => exact Host.Outcome.next.inj ran ▸ .stop
  | exchangeFrame pulse => exact Host.Outcome.next.inj ran ▸ .pulse pulse
  | linePulseFrame first second judgedFirst =>
    refine whileRunning_outcome (observeLine_steps ?_ judgedFirst) ran
    cases second <;> simp
  | noPulseFrame judgedFirst => exact whileRunning_outcome (observeLine_steps (Nat.zero_le _) judgedFirst) ran
  | entryToLocked => exact whileRunning_outcome entryToLocked_steps ran
  | entryToLost => exact whileRunning_outcome entryToLost_steps ran
  | lossHoldExpiry => exact whileRunning_outcome lossHoldExpiry_steps ran
  | filteredCodeChange slot => exact moves (filteredCodeChange_moves slot) ran
  | clearGuardExpiry context side => exact moves (clearGuardExpiry_moves context side) ran
  | expiringIdleSignOff slot => exact moves (expiringIdleSignOff_moves slot) ran
  | signOn slot number serial => exact arrives (fun _ kind => takeSignOn_moves kind number serial) ran
  | response slot answer => exact arrives (fun _ _ => takeResponse_moves slot answer) ran
  | signOff slot => exact arrives (fun _ _ => takeSignOff_moves slot) ran
  | statusQuery slot => exact arrives (fun _ _ => answerStatus_moves slot) ran
  | garbledMessage slot => exact arrives (fun _ _ => discardGarbled_moves slot) ran
  | unknownHandsetMessage slot type => exact arrives (fun _ _ => .refl) ran
  | handsetMessageStart slot => exact moves (messageStart_moves slot) ran
  | handsetMessageSent slot => exact moves (messageSent_moves slot) ran
  | responseTimeout slot => exact moves (responseTimeout_moves slot) ran
  | refusalHoldEnd slot => exact moves (refusalHoldEnd_moves slot) ran
  | engineSelect => exact moves engineSelect_moves ran
  | verifyDelivery => exact moves verifyDelivery_moves ran
  | txKeyDelivery => exact moves txKeyDelivery_moves ran
  | rxKeyDelivery => exact moves rxKeyDelivery_moves ran
  | minuteBoundary => exact moves minuteBoundary_moves ran
  | blockBoundary context => exact moves (blockBoundary_moves context) ran
  | rekeyIntervalExpiry context => exact moves (rekeyIntervalExpiry_moves context) ran
  | contextFree context => exact moves (contextFree_moves context) ran
  | huntMarkerFound context => exact moves (huntMarkerFound_moves context) ran
  | markerFrame context => exact moves (markerFrame_moves context) ran
  | blockRestore context => exact moves (blockRestore_moves context) ran
  | huntTimeout context => exact moves (huntTimeout_moves context) ran
  | burstEnd slot => exact moves (burstEnd_moves slot) ran
  | gapEnd slot => exact moves (gapEnd_moves slot) ran
  | rejectedMessage => exact whileRunning_outcome rejectMessage_steps ran
  | unknownRequest code body => exact whileRunning_outcome (unknownRequest_steps code) ran
  | responseStart => exact whileRunning_outcome responseStart_steps ran
  | responseEnd => exact whileRunning_outcome responseEnd_steps ran
  | getStatus body => exact requests getStatus_acts body ran
  | setTime body => exact requests setTime_acts body ran
  | setTimers body => exact requests setTimers_acts body ran
  | reset body => exact requests resetPart_acts body ran
  | eraseSecrets body => exact requests eraseSecrets_acts body ran
  | setSlot body => exact requests setSlot_acts body ran
  | readSlot body => exact requests readSlot_acts body ran
  | forceSignOff body => exact requests forceSignOff_acts body ran
  | loadEntry body => exact requests loadEntry_acts body ran
  | deleteEntry body => exact requests deleteEntry_acts body ran
  | readDirectory body => exact requests readDirectory_acts body ran
  | setStanding body => exact requests setStanding_acts body ran
  | loadClass body => exact requests loadClass_acts body ran
  | loadVisitorRule body => exact requests loadVisitorRule_acts body ran
  | setVisitorMasks body => exact requests setVisitorMasks_acts body ran
  | setEngineLevels body => exact requests setEngineLevels_acts body ran
  | loadSite body => exact requests loadSite_acts body ran
  | clearSite body => exact requests clearSite_acts body ran
  | openPrivacy body => exact requests openPrivacy_acts body ran
  | closePrivacy body => exact requests closePrivacy_acts body ran
  | rekey body => exact requests rekey_acts body ran
  | readContext body => exact requests readContext_acts body ran
  | loadTone body => exact requests loadTone_acts body ran
  | setToneFunctions body => exact requests setToneFunctions_acts body ran
  | playTone body => exact requests playTone_acts body ran
  | stopTone body => exact requests stopTone_acts body ran
  | setEventMask body => exact requests setEventMask_acts body ran
  | readEvents body => exact requests readEvents_acts body ran
  | readRecords body => exact requests readRecords_acts body ran

end

end Sys2Proof.Machine
end

section
/-! PROOFS. What every step keeps: the queue of commands, the sizes of the queues, the engine's list, the ranges of the
line side, the standings. -/

namespace Sys2Proof.Machine

open Sys2Proof.Safety

section
variable {s t : State}

/-! ### The queue of commands -/

theorem steps_pending (steps : Steps s t) : t.pending = s.pending := by
  induction steps with
  | refl => rfl
  | moves _ m ih => exact (moves_frame m).2.2.1.trans ih
  | highway _ _ _ ih => exact ih
  | port _ _ _ ih => exact ih
  | clock _ _ ih => exact ih

/-- The frame before a pulse is ended when the pulse runs (R1). -/
def endFrame (s : State) : State := if s.clock.timebase = .running then closeFrame s else s

theorem endFrame_steps (s : State) : Steps s (endFrame s) := by
  unfold endFrame
  split
  · exact closeFrame_steps
  · exact .refl

theorem exchangeFrame_steps (p : ExchangePulse) (s : State) :
    Steps (pulseTaken p (endFrame s)) (exchangeFrame p s) := beginFrame_steps p

/-- The state in which the pulse has stopped. -/
def stopPulse (s : State) : State := { s with clock := { s.clock with timebase := .stopped } }

theorem framePulseStop_cases (s : State) :
    framePulseStop s = s ∨ s.clock.timebase = .running ∧ framePulseStop s = stopPulse (closeFrame s) := by
  unfold framePulseStop
  split
  next running => exact .inr ⟨running, rfl⟩
  next => exact .inl rfl

theorem pulseTaken_pending (p : ExchangePulse) (s : State) : (pulseTaken p s).pending = s.pending := rfl

theorem stopPulse_pending (s : State) : (stopPulse s).pending = s.pending := rfl

theorem outcome_pending (outcome : Outcome s t) : t.pending = s.pending := by
  cases outcome with
  | steps steps => exact steps_pending steps
  | pulse p => rw [steps_pending (exchangeFrame_steps p s), pulseTaken_pending, steps_pending (endFrame_steps s)]
  | stop =>
    obtain same | ⟨-, stopped⟩ := framePulseStop_cases s
    · rw [same]
    · rw [stopped, stopPulse_pending, steps_pending closeFrame_steps]
  | power => rfl

/-- Settles O2. -/
theorem commandsKeepTheQueue : Obligations.CommandsKeepTheQueue :=
  fun _ _ _ ran => outcome_pending (exec_outcome ran)

/-! ### Laws that moves, the port, the clock and the Highway Interface keep -/

/-- A law that reads neither the Highway Interface nor the clock nor the queue of commands, and that every move and every
change of the port keep. -/
structure Law (P : State → Prop) : Prop where
  moves : ∀ {s t}, Moves .clear s t → P s → P t
  port : ∀ {s} p, (s.port.holding.length ≤ 2 → p.holding.length ≤ 2) → P s → P (s.withPort p)
  rest : ∀ {s} h c q, P s → P { s with highway := h, clock := c, pending := q }
  reset : P State.reset

section
variable {P : State → Prop} (law : Law P)
include law

theorem Law.keeps_steps (steps : Steps s t) (holds : P s) : P t := by
  induction steps with
  | refl => exact holds
  | moves _ m ih => exact law.moves m ih
  | highway _ h _ ih => exact law.rest h _ _ ih
  | port _ p bound ih => exact law.port p bound ih
  | clock _ _ ih => exact law.rest _ _ _ ih

theorem Law.keeps_pulseTaken (p : ExchangePulse) (holds : P s) : P (pulseTaken p s) := law.rest _ _ _ holds

theorem Law.keeps_stopPulse (holds : P s) : P (stopPulse s) := law.rest _ _ _ holds

theorem Law.keeps_outcome (outcome : Outcome s t) (holds : P s) : P t := by
  cases outcome with
  | steps steps => exact law.keeps_steps steps holds
  | pulse p =>
    exact law.keeps_steps (exchangeFrame_steps p s)
      (law.keeps_pulseTaken p (law.keeps_steps (endFrame_steps s) holds))
  | stop =>
    obtain same | ⟨-, stopped⟩ := framePulseStop_cases s
    · rwa [same]
    · rw [stopped]
      exact law.keeps_stopPulse (law.keeps_steps closeFrame_steps holds)
  | power => exact law.rest _ _ _ law.reset

theorem Law.keeps_step (stepped : step s = .next t) (holds : P s) : P t := by
  unfold step at stepped
  split at stepped
  · exact Host.Outcome.next.inj stepped ▸ holds
  · exact law.keeps_outcome (exec_outcome stepped) (law.rest _ _ _ holds)

end

/-- A law of which every single move keeps its share, whatever is left to settle. -/
theorem moves_keep {P : State → Prop} (each : ∀ {L M : Ledger} {s t : State}, Move (L, s) (M, t) → P s → P t)
    {a b : Ledger × State} (m : Relation.ReflTransGen Move a b) (holds : P a.2) : P b.2 := by
  induction m with
  | refl => exact holds
  | tail _ m ih => exact each m ih

/-! ### The state after reset -/

theorem slot_reset (i : SlotId) : State.reset.slot i = Slot.initial := by simp [State.reset, State.slot]
theorem record_reset (r : RecordId) : State.reset.record r = none := by simp [State.reset, State.record]
theorem context_reset (c : ContextId) : State.reset.context c = none := by simp [State.reset, State.context]

/-! ### Queues -/

theorem queuesBounded_onSlot {i : SlotId} {f : Slot → Slot} (bounded : QueuesBounded s)
    (queue : (f (s.slot i)).txQueue.length ≤ 4) : QueuesBounded (onSlot i f s) :=
  { bounded with
    messages := fun j => by
      rw [slot_onSlot]
      split
      · exact queue
      · exact bounded.messages j }

theorem queuesBounded_withRecord {r : RecordId} {o : Option Record} (bounded : QueuesBounded s) :
    QueuesBounded (s.withRecord r o) := { bounded with }

theorem queuesBounded_withContext {c : ContextId} {o : Option Context} (bounded : QueuesBounded s) :
    QueuesBounded (s.withContext c o) := { bounded with }

theorem queuesBounded_releaseAdmission (r : Slot) (bounded : QueuesBounded s) :
    QueuesBounded (releaseAdmission r s) := by
  unfold releaseAdmission
  split
  · exact queuesBounded_withRecord bounded
  · split
    · exact { bounded with visitors := Nat.le_trans (Nat.sub_le ..) bounded.visitors }
    · exact bounded

theorem move_queuesBounded {L M : Ledger} (m : Move (L, s) (M, t)) (bounded : QueuesBounded s) : QueuesBounded t := by
  cases m with
  | slots v quiet => exact { bounded with messages := fun i => (quiet i).queue (bounded.messages i) }
  | contexts => exact { bounded with }
  | engine => exact { bounded with }
  | events e kept => exact { bounded with events := kept.bound bounded.events }
  | records e kept => exact { bounded with records := kept.bound bounded.records }
  | tables _ visitors _ _ _ _ count => exact { bounded with visitors := (show visitors.count ≤ 32 from count ▸ bounded.visitors) }
  | judge => exact queuesBounded_withRecord bounded
  | bar => exact queuesBounded_withRecord bounded
  | barred => exact bounded
  | stop i o =>
    cases o with
    | none =>
      refine queuesBounded_onSlot bounded ?_
      exact bounded.messages i
    | some r =>
      refine queuesBounded_onSlot (queuesBounded_withRecord bounded) ?_
      exact bounded.messages i
  | hear => exact bounded
  | settle i =>
    refine queuesBounded_onSlot bounded ?_
    exact bounded.messages i
  | lockOut i =>
    refine queuesBounded_onSlot (queuesBounded_releaseAdmission _ bounded) ?_
    exact (queuesBounded_releaseAdmission _ bounded).messages i
  | challenge i =>
    refine queuesBounded_onSlot (queuesBounded_withRecord bounded) ?_
    exact bounded.messages i
  | visitor i n k _ _ room =>
    have counted : QueuesBounded { s with visitors := { s.visitors with count := s.visitors.count + 1 } } :=
      { bounded with visitors := room }
    refine queuesBounded_onSlot counted ?_
    exact bounded.messages i
  | enrol i =>
    refine queuesBounded_withRecord (queuesBounded_onSlot bounded ?_)
    exact bounded.messages i
  | opens c x =>
    have tied := queuesBounded_onSlot (i := x.tie) (f := fun r => { r with boundContext := some c })
      (queuesBounded_withContext (c := c) (o := some x) bounded) (bounded.messages x.tie)
    refine queuesBounded_onSlot tied ?_
    exact tied.messages x.ext
  | free c x =>
    have tied := queuesBounded_onSlot (i := x.tie) (f := fun r => { r with boundContext := none }) bounded
      (bounded.messages x.tie)
    refine queuesBounded_withContext (queuesBounded_onSlot tied ?_)
    exact tied.messages x.ext
  | rekind i => exact queuesBounded_onSlot bounded (Nat.zero_le _)
  | file => exact queuesBounded_withRecord bounded
  | erase => exact { bounded with }

theorem queuesBounded_law : Law QueuesBounded where
  moves m := moves_keep (P := QueuesBounded) move_queuesBounded m
  port _ bound bounded := { bounded with requests := bound bounded.requests }
  rest _ _ _ bounded := { bounded with }
  reset := ⟨Nat.zero_le _, Nat.zero_le _, fun i => by simp [slot_reset, Slot.initial], Nat.zero_le _, Nat.zero_le _⟩

theorem move_marksBacked {L M : Ledger} (m : Move (L, s) (M, t)) (backed : MarksBacked s) : MarksBacked t := by
  cases m with
  | events e kept => exact ⟨kept.backed backed.overflow, backed.discarded⟩
  | records e kept => exact ⟨backed.overflow, kept.backed backed.discarded⟩
  | stop i o => cases o <;> exact ⟨backed.overflow, backed.discarded⟩
  | lockOut i =>
    have released : MarksBacked (releaseAdmission (s.slot i) s) := by
      unfold releaseAdmission
      split
      · exact ⟨backed.overflow, backed.discarded⟩
      · split
        · exact ⟨backed.overflow, backed.discarded⟩
        · exact backed
    exact ⟨released.overflow, released.discarded⟩
  | _ => exact ⟨backed.overflow, backed.discarded⟩

theorem marksBacked_law : Law MarksBacked where
  moves m := moves_keep (P := MarksBacked) move_marksBacked m
  port _ _ backed := ⟨backed.overflow, backed.discarded⟩
  rest _ _ _ backed := ⟨backed.overflow, backed.discarded⟩
  reset := ⟨nofun, fun counted => absurd rfl counted⟩

/-- Settles O7. -/
theorem queuesStayBounded : Obligations.QueuesStayBounded :=
  ⟨fun _ _ bounded stepped => queuesBounded_law.keeps_step stepped bounded,
    fun _ _ backed stepped => marksBacked_law.keeps_step stepped backed⟩

/-! ### The engine's list -/

theorem move_engineSound {L M : Ledger} (m : Move (L, s) (M, t)) (sound : EngineSound s.engine) :
    EngineSound t.engine := by
  cases m with
  | engine e kept => exact kept sound
  | stop i o => cases o <;> exact sound
  | lockOut i =>
    have same : (releaseAdmission (s.slot i) s).engine = s.engine := by
      unfold releaseAdmission
      split
      · rfl
      · split <;> rfl
    exact same ▸ sound
  | _ => exact sound

theorem engineSound_law : Law fun s => EngineSound s.engine where
  moves m := moves_keep (P := fun s => EngineSound s.engine) move_engineSound m
  port _ _ sound := sound
  rest _ _ _ sound := sound
  reset := ⟨.nil, nofun, nofun, nofun, nofun, nofun⟩

/-- Settles O8. -/
theorem engineStaysSound : Obligations.EngineStaysSound :=
  fun _ _ sound stepped => engineSound_law.keeps_step stepped sound

/-! ### The standings -/

theorem standingsSound_iff (s : State) : StandingsSound s ↔ ∀ r x, s.record r = some x → x.Judged := Iff.rfl

/-- A record written keeps the law when what is written is judged. -/
theorem standings_withRecord {r : RecordId} {o : Option Record} (sound : StandingsSound s)
    (judged : ∀ y, o = some y → y.Judged) : StandingsSound (s.withRecord r o) := by
  intro q x held
  rw [record_withRecord] at held
  split at held
  · exact judged x held
  · exact sound q x held

theorem standings_onRecord {r : RecordId} {f : Record → Record} (sound : StandingsSound s)
    (judged : ∀ x : Record, x.Judged → (f x).Judged) : StandingsSound (onRecord r f s) :=
  standings_withRecord sound fun y written => by
    obtain ⟨x, held, rfl⟩ := Option.map_eq_some_iff.mp written
    exact judged x (sound r x held)

theorem move_standingsSound {L M : Ledger} (m : Move (L, s) (M, t)) (sound : StandingsSound s) : StandingsSound t := by
  cases m with
  | judge r x y held _ _ judged =>
    exact standings_withRecord sound fun z same => Option.some.inj same ▸ judged (sound r x held)
  | bar r x =>
    exact standings_withRecord sound fun z same =>
      Option.some.inj same ▸ ⟨Nat.le_refl 255, fun _ => rfl, fun other => absurd rfl other⟩
  | stop i o =>
    cases o with
    | none => exact sound
    | some r => exact standings_onRecord sound fun _ judged => judged
  | lockOut i =>
    have released : StandingsSound (releaseAdmission (s.slot i) s) := by
      unfold releaseAdmission
      split
      · exact standings_onRecord sound fun _ judged => judged
      · split <;> exact sound
    exact released
  | challenge => exact standings_onRecord sound fun _ judged => judged
  | enrol => exact standings_onRecord (f := fun y => { y with admittedSlot := _, lastSignOn := _ }) sound fun _ judged => judged
  | file r o _ fresh => exact standings_withRecord sound fun y same => (fresh y same).2
  | erase =>
    intro r x held
    simp [State.record] at held
  | _ => exact sound

theorem standingsSound_law : Law StandingsSound where
  moves m := moves_keep (P := StandingsSound) move_standingsSound m
  port _ _ sound := sound
  rest _ _ _ sound := sound
  reset := fun r x held => absurd ((record_reset r).symm.trans held) (by simp)

/-- Settles O13. -/
theorem standingsFollowTheCounter : Obligations.StandingsFollowTheCounter :=
  fun _ _ sound stepped => standingsSound_law.keeps_step stepped sound

/-! ### The ranges of the line side -/

theorem steps_lineInRange (steps : Steps s t) (line : LineInRange s) : LineInRange t := by
  induction steps with
  | refl => exact line
  | moves _ m ih => exact moves_lineInRange m ih
  | highway _ _ sound ih => exact sound ih
  | port _ _ _ ih => exact lineInRange_congr ih rfl rfl
  | clock _ _ ih => exact lineInRange_congr ih rfl rfl

theorem steps_timebase (steps : Steps s t) : t.clock.timebase = s.clock.timebase := by
  induction steps with
  | refl => rfl
  | moves _ m ih => exact (moves_frame m).2.2.2.1.trans ih
  | highway _ _ _ ih => exact ih
  | port _ _ _ ih => exact ih
  | clock _ _ ih => exact ih

theorem sendWords_lossHold (s : State) : (sendWords s).highway.lossHold = s.highway.lossHold := rfl

/-- The loss hold timer can still count a frame. -/
def HoldCounts (s : State) : Prop := ∀ x, s.highway.lossHold = some x → x.elapsed < 64000

theorem closeOutput_lossHold (s : State) : (closeOutput s).highway.lossHold = s.highway.lossHold := by
  have slots : (forEach slotIds slotOutput s).highway = s.highway :=
    (moves_frame (forEach_moves (L := .clear) (fun i _ => slotOutput_moves i) slotIds s)).1
  have start (t : State) : (responseStart t).highway = t.highway := by
    unfold responseStart
    split <;> rfl
  have finish (t : State) : (responseEnd t).highway = t.highway := by
    unfold responseEnd
    split <;> rfl
  have idle (t : State) : (formIdleWord t).highway = t.highway := by
    unfold formIdleWord
    split <;> rfl
  rw [closeOutput, sendWords_lossHold, idle, finish, start, slots]

theorem lossHoldExpiry_lossHold (s : State) : (lossHoldExpiry s).highway.lossHold =
    if s.highway.timing = .lost ∧ expired s.highway.lossHoldLimit s.highway.lossHold = true then none
    else s.highway.lossHold := by
  unfold lossHoldExpiry
  split
  · have kept := (moves_frame ((forEach_moves (L := .clear)
      (fun c _ => sweepContext_moves .lineLoss c) contextIds (s.withHighway { s.highway with lossHold := none })).trans
      ((forEach_moves (fun i _ => signOffSlot_moves .lineLoss i) slotIds _).trans
        (post_moves .lineState none none none 0x03)))).1
    exact congrArg Highway.lossHold kept
  · rfl

/-- A frame that has ended holds no timer that has run its full time (R11). -/
theorem closeFrame_holdCounts (line : LineInRange s) : HoldCounts (closeFrame s) := by
  have ranged : LineInRange (closeEvents s) := steps_lineInRange closeEvents_steps line
  intro x held
  rw [closeFrame_eq, closeOutput_lossHold, lossHoldExpiry_lossHold] at held
  split at held
  · exact (Option.some_ne_none x held.symm).elim
  next counting =>
    obtain ⟨lost, bound⟩ := ranged.hold x held
    refine lt_of_le_of_ne bound fun full => counting ⟨lost, ?_⟩
    obtain ⟨due, -⟩ := ranged.expiring x held full
    simp [expired, held, due, full, ranged.limit.2]

/-- A frame pulse keeps the ranges when the loss hold can count it. -/
theorem pulseTaken_lineInRange (p : ExchangePulse) (line : LineInRange s) (counts : HoldCounts s) :
    LineInRange (pulseTaken p s) := by
  have held {x : Timer} (found : (pulseTaken p s).highway.lossHold = some x) :
      s.highway.timing = .lost ∧ x.elapsed ≤ 64000 ∧
        (x.elapsed = 64000 → x.due = true) := by
    obtain ⟨y, held, rfl⟩ := Option.map_eq_some_iff.mp found
    have room := counts y held
    refine ⟨(line.hold y held).1, room, fun full => ?_⟩
    have full : y.elapsed + 1 = 64000 := full
    simp [Timer.advance, full, line.limit.2]
  have running : (pulseTaken p s).clock.timebase = .running := by
    change (Clock.beginFrame s.clock).timebase = .running
    unfold Clock.beginFrame
    split <;> rfl
  exact ⟨line.good, line.miss, line.depth, line.slips, line.window, line.limit, line.store,
    fun x found => ⟨(held found).1, (held found).2.1⟩, fun x found full => ⟨(held found).2.2 full, running⟩, nofun, nofun⟩

theorem stopPulse_lineInRange (line : LineInRange s) (counts : HoldCounts s) : LineInRange (stopPulse s) :=
  { line with expiring := fun x held full => absurd full (Nat.ne_of_lt (counts x held)) }

theorem reset_lineInRange : LineInRange State.reset :=
  ⟨by decide, by decide, by decide, by decide, by decide, by decide, nofun, nofun, nofun, nofun, nofun⟩

theorem outcome_lineInRange (outcome : Outcome s t) (line : LineInRange s) : LineInRange t := by
  cases outcome with
  | steps steps => exact steps_lineInRange steps line
  | pulse p =>
    refine steps_lineInRange (exchangeFrame_steps p s)
      (pulseTaken_lineInRange p (steps_lineInRange (endFrame_steps s) line) ?_)
    unfold endFrame
    split
    · exact closeFrame_holdCounts line
    next waiting =>
      intro x held
      obtain ⟨-, bound⟩ := line.hold x held
      exact lt_of_le_of_ne bound fun full => waiting (line.expiring x held full).2
  | stop =>
    obtain same | ⟨running, stopped⟩ := framePulseStop_cases s
    · rwa [same]
    · rw [stopped]
      exact stopPulse_lineInRange (steps_lineInRange closeFrame_steps line) (closeFrame_holdCounts line)
  | power => exact lineInRange_congr reset_lineInRange rfl rfl

/-- Settles O9: at the end of every frame that the pulse counts, a loss hold that has run its full time has expired. -/
theorem lineStaysInRange : Obligations.LineStaysInRange := by
  intro s t line stepped
  unfold step at stepped
  split at stepped
  · exact Host.Outcome.next.inj stepped ▸ line
  · exact outcome_lineInRange (exec_outcome stepped) (lineInRange_congr line rfl rfl)

end

end Sys2Proof.Machine
end

section
/-! PROOFS. Every step keeps slots, directory and visitor count in agreement (R51, R61, R63). The agreement is stated of
the few facts of a slot and a record that it reads, with the slots that an operation has yet to settle. -/

namespace Sys2Proof.Machine

open Sys2Proof.Safety

/-! ### Counting over slots -/

theorem countP_update_of_not_mem {n : Nat} (p : Fin n → Bool) (i : Fin n) (b : Bool) (l : List (Fin n)) (absent : i ∉ l) :
    l.countP (Function.update p i b) = l.countP p :=
  List.countP_congr fun j member => by
    have other : j ≠ i := fun same => absent (same ▸ member)
    rw [Function.update_of_ne other]

/-- Changing a predicate at one element of a list without repetition. -/
theorem countP_update {n : Nat} (p : Fin n → Bool) (i : Fin n) (b : Bool) (l : List (Fin n)) (nodup : l.Nodup)
    (member : i ∈ l) : l.countP (Function.update p i b) + (p i).toNat = l.countP p + b.toNat := by
  have flag (b : Bool) : (if b = true then 1 else 0) = b.toNat := by cases b <;> rfl
  induction l with
  | nil => exact (List.not_mem_nil member).elim
  | cons j rest ih =>
    obtain ⟨fresh, nodup⟩ := List.nodup_cons.mp nodup
    simp only [List.countP_cons, flag]
    by_cases same : j = i
    · subst same
      rw [countP_update_of_not_mem p j b rest fresh, Function.update_self]
      omega
    · have later : i ∈ rest := (List.mem_cons.mp member).resolve_left fun same' => same same'.symm
      rw [Function.update_of_ne same]
      have := ih nodup later
      omega

/-! ### The agreement -/

/-- What the agreement reads of a slot. -/
structure Tale where
  kind : Kind
  admitted : Bool
  signing : Bool
  challenged : Bool
  index : Option RecordId
  visitor : Bool
  numbered : Bool
  classed : Bool

def Slot.tale (r : Slot) : Tale where
  kind := r.kind
  admitted := r.isAdmitted
  signing := r.signingOn
  challenged := r.challenge.isSome
  index := r.boundIndex
  visitor := r.visitor
  numbered := r.number.isSome
  classed := r.admissionClass.isSome

/-- The admitted slot of a record, and its pending slot. -/
def admittedAt (s : State) (r : RecordId) : Option SlotId := (s.record r).bind Record.admittedSlot
def pendingAt (s : State) (r : RecordId) : Option SlotId := (s.record r).bind Record.pendingSlot

/-- The agreement of `AdmissionSound`, with the slots `S` whose sign-on an operation has stopped or is to refuse. -/
structure Agrees (S : List SlotId) (f : SlotId → Tale) (holds pends : RecordId → Option SlotId) (count : Nat) : Prop where
  admitted : ∀ i, (f i).admitted = true →
    (f i).kind = .extension ∧ (f i).numbered = true ∧ (f i).classed = true ∧ (f i).visitor = !(f i).index.isSome
  absent : ∀ i, (f i).admitted = false →
    (f i).index = none ∧ (f i).numbered = false ∧ (f i).classed = false ∧ (f i).visitor = false
  signing : ∀ i, (f i).signing = true → (f i).kind = .extension ∧ (f i).admitted = false ∧
    (i ∈ S ∨ (f i).challenged = true ∧ ∃ r, pends r = some i)
  pending : ∀ r i, pends r = some i → (f i).signing = true ∧ i ∉ S
  onePending : ∀ r q i, pends r = some i → pends q = some i → r = q
  bound : ∀ r i, (f i).index = some r ↔ holds r = some i
  visitors : count = slotIds.countP fun i => (f i).visitor
  unsettled : ∀ i, i ∈ S → (f i).kind = .extension ∧ (f i).admitted = false

section
variable {S : List SlotId} {f : SlotId → Tale} {holds pends : RecordId → Option SlotId} {count : Nat}

theorem visitors_update (i : SlotId) (x : Tale) (visitors : count = slotIds.countP fun i => (f i).visitor) :
    (slotIds.countP fun j => (Function.update f i x j).visitor) + (f i).visitor.toNat =
      count + x.visitor.toNat := by
  have updated : (fun j => (Function.update f i x j).visitor) =
      Function.update (fun j => (f j).visitor) i x.visitor := by
    funext j
    by_cases same : j = i
    · subst same
      simp
    · simp [Function.update_of_ne same]
  rw [updated, visitors]
  exact countP_update _ i _ slotIds (List.nodup_finRange 127) (List.mem_finRange i)

theorem visitors_kept {i : SlotId} {x : Tale} (visitors : count = slotIds.countP fun i => (f i).visitor)
    (same : x.visitor = (f i).visitor) : count = slotIds.countP fun j => (Function.update f i x j).visitor := by
  have := visitors_update i x visitors
  rw [same] at this
  omega

theorem bound_kept {i : SlotId} {x : Tale} (bound : ∀ r i, (f i).index = some r ↔ holds r = some i)
    (same : x.index = (f i).index) (r : RecordId) (j : SlotId) :
    (Function.update f i x j).index = some r ↔ holds r = some j := by
  by_cases own : j = i
  · subst own
    rw [Function.update_self, same, bound]
  · rw [Function.update_of_ne own, bound]

theorem Agrees.stop (agrees : Agrees S f holds pends count) {i : SlotId} {o : Option RecordId}
    (signing : (f i).signing = true) (named : ∀ r, o = some r → pends r = some i)
    (found : o = none → ∀ r, pends r ≠ some i) : Agrees (i :: S) (Function.update f i { f i with challenged := false }) holds
      (o.elim pends fun r => Function.update pends r none) count := by
  have free (r : RecordId) : (o.elim pends fun r => Function.update pends r none) r ≠ some i := by
    cases o with
    | none => exact found rfl r
    | some q =>
      intro pending
      by_cases same : r = q
      · subst same
        simp at pending
      · have pending : pends r = some i := by simpa [Function.update_of_ne same] using pending
        exact same (agrees.onePending r q i pending (named q rfl))
  have kept {r : RecordId} {j : SlotId} (pending : (o.elim pends fun r => Function.update pends r none) r = some j) :
      pends r = some j := by
    cases o with
    | none => exact pending
    | some q =>
      by_cases same : r = q
      · subst same
        simp at pending
      · simpa [Function.update_of_ne same] using pending
  have stands {r : RecordId} {j : SlotId} (other : j ≠ i) (pending : pends r = some j) :
      (o.elim pends fun r => Function.update pends r none) r = some j := by
    cases o with
    | none => exact pending
    | some q =>
      have different : r ≠ q := fun same => other (Option.some.inj (pending.symm.trans (same ▸ named q rfl)))
      simpa [Function.update_of_ne different] using pending
  constructor
  · grind [Function.update_apply, agrees.admitted i, agrees.admitted]
  · grind [Function.update_apply, agrees.absent]
  · intro j signing'
    by_cases same : j = i
    · subst same
      obtain ⟨kind, out, -⟩ := agrees.signing j signing
      simp [kind, out]
    · rw [Function.update_of_ne same] at signing' ⊢
      obtain ⟨kind, out, known⟩ := agrees.signing j signing'
      refine ⟨kind, out, ?_⟩
      obtain known | ⟨challenged, r, pending⟩ := known
      · exact .inl (List.mem_cons_of_mem _ known)
      · exact .inr ⟨challenged, r, stands same pending⟩
  · intro r j pending
    have other : j ≠ i := fun same => free r (same ▸ pending)
    obtain ⟨signing', settled⟩ := agrees.pending r j (kept pending)
    rw [Function.update_of_ne other]
    exact ⟨signing', by simp [other, settled]⟩
  · exact fun r q j first second => agrees.onePending r q j (kept first) (kept second)
  · exact bound_kept agrees.bound rfl
  · exact visitors_kept agrees.visitors rfl
  · intro j member
    obtain ⟨kind, out, -⟩ := agrees.signing i signing
    by_cases same : j = i
    · subst same
      simp [kind, out]
    · rw [Function.update_of_ne same]
      exact agrees.unsettled j ((List.mem_cons.mp member).resolve_left same)

theorem Agrees.hear (agrees : Agrees S f holds pends count) {i : SlotId} (idle : (f i).signing = false)
    (heard : (f i).kind = .extension ∧ (f i).admitted = false) : Agrees (i :: S) f holds pends count where
  admitted := agrees.admitted
  absent := agrees.absent
  signing := by grind [agrees.signing]
  pending := by grind [agrees.pending]
  onePending := agrees.onePending
  bound := agrees.bound
  visitors := agrees.visitors
  unsettled := by grind [agrees.unsettled]

theorem Agrees.settle {i : SlotId} (agrees : Agrees (i :: S) f holds pends count) :
    Agrees S (Function.update f i { f i with admitted := false, signing := false }) holds pends count where
  admitted := by grind [Function.update_apply, agrees.admitted]
  absent := by grind [Function.update_apply, agrees.absent, agrees.unsettled i List.mem_cons_self]
  signing := by grind [Function.update_apply, agrees.signing]
  pending := fun r j pending => by
    obtain ⟨signing, settled⟩ := agrees.pending r j pending
    obtain ⟨other, settled⟩ := not_or.mp (List.mem_cons.not.mp settled)
    rw [Function.update_of_ne other]
    exact ⟨signing, settled⟩
  onePending := agrees.onePending
  bound := bound_kept agrees.bound rfl
  visitors := visitors_kept agrees.visitors rfl
  unsettled := by grind [Function.update_apply, agrees.unsettled]

/-- The part of a slot without its admission. -/
def Tale.locked (x : Tale) : Tale :=
  { x with admitted := false, signing := false, index := none, visitor := false, numbered := false, classed := false }

theorem Agrees.lockOut (agrees : Agrees S f holds pends count) {i : SlotId} (admitted : (f i).admitted = true) :
    Agrees S (Function.update f i (f i).locked) ((f i).index.elim holds fun r => Function.update holds r none) pends
      (count - (f i).visitor.toNat) where
  admitted := by grind [Function.update_apply, agrees.admitted, Tale.locked]
  absent := by grind [Function.update_apply, agrees.absent, Tale.locked]
  signing := by grind [Function.update_apply, agrees.signing, Tale.locked]
  pending := fun r j pending => by
    obtain ⟨signing, settled⟩ := agrees.pending r j pending
    have other : j ≠ i := fun same => by simp [same ▸ (agrees.signing j signing).2.1] at admitted
    rw [Function.update_of_ne other]
    exact ⟨signing, settled⟩
  onePending := agrees.onePending
  bound := fun r j => by
    have bound := agrees.bound r
    by_cases same : j = i
    · subst same
      rw [Function.update_self]
      cases index : (f j).index with
      | none => simpa [Tale.locked, index] using bound j
      | some q =>
        by_cases own : r = q
        · simp [Tale.locked, own]
        · simpa [Tale.locked, index, Function.update_of_ne own, Ne.symm own] using bound j
    · rw [Function.update_of_ne same, bound j]
      cases index : (f i).index with
      | none => rfl
      | some q =>
        by_cases own : r = q
        · subst own
          have held : holds r = some i := (bound i).mp index
          simp [held, Ne.symm same]
        · simp [Function.update_of_ne own]
  visitors := by
    have := visitors_update i (f i).locked agrees.visitors
    simp only [Tale.locked, Bool.toNat_false, Nat.add_zero] at this ⊢
    omega
  unsettled := fun j member => by
    obtain ⟨kind, out⟩ := agrees.unsettled j member
    have other : j ≠ i := fun same => by simp [same ▸ out] at admitted
    rw [Function.update_of_ne other]
    exact ⟨kind, out⟩

theorem Agrees.challenge (agrees : Agrees [] f holds pends count) {i : SlotId} {r : RecordId}
    (kind : (f i).kind = .extension) (out : (f i).admitted = false) (idle : (f i).signing = false)
    (free : pends r = none) :
    Agrees [] (Function.update f i { f i with signing := true, challenged := true }) holds
      (Function.update pends r (some i)) count where
  admitted := by grind [Function.update_apply, agrees.admitted]
  absent := by grind [Function.update_apply, agrees.absent]
  signing := by
    intro j signing
    by_cases same : j = i
    · subst same
      rw [Function.update_self]
      exact ⟨kind, out, .inr ⟨rfl, r, Function.update_self ..⟩⟩
    · rw [Function.update_of_ne same] at signing ⊢
      obtain ⟨kind, out, absurd | ⟨challenged, q, pending⟩⟩ := agrees.signing j signing
      · exact (List.not_mem_nil absurd).elim
      · have other : q ≠ r := fun same => by simp [same, free] at pending
        exact ⟨kind, out, .inr ⟨challenged, q, (Function.update_of_ne other ..).trans pending⟩⟩
  pending := by grind [Function.update_apply, agrees.pending]
  onePending := by
    have := agrees.pending
    grind [Function.update_apply, agrees.onePending]
  bound := bound_kept agrees.bound rfl
  visitors := visitors_kept agrees.visitors rfl
  unsettled := by simp

theorem Agrees.visitor (agrees : Agrees [] f holds pends count) {i : SlotId}
    (kind : (f i).kind = .extension) (out : (f i).admitted = false) (idle : (f i).signing = false) :
    Agrees [] (Function.update f i { f i with
      admitted := true, visitor := true, numbered := true, classed := true, index := none }) holds pends
      (count + 1) where
  admitted := by grind [Function.update_apply, agrees.admitted]
  absent := by grind [Function.update_apply, agrees.absent]
  signing := by grind [Function.update_apply, agrees.signing]
  pending := by grind [Function.update_apply, agrees.pending]
  onePending := agrees.onePending
  bound := bound_kept agrees.bound (agrees.absent i out).1.symm
  visitors := by
    have := visitors_update i { f i with
      admitted := true, visitor := true, numbered := true, classed := true, index := none } agrees.visitors
    rw [(agrees.absent i out).2.2.2, Bool.toNat_false, Bool.toNat_true] at this
    omega
  unsettled := by simp

theorem Agrees.enrol {i : SlotId} {r : RecordId} (agrees : Agrees [i] f holds pends count)
    (out : ∀ a, holds r = some a → (f a).admitted = false) :
    Agrees [] (Function.update f i { f i with
      admitted := true, signing := false, visitor := false, numbered := true, classed := true, index := some r })
      (Function.update holds r (some i)) pends count := by
  obtain ⟨kind, away⟩ := agrees.unsettled i List.mem_cons_self
  have alone (a : SlotId) : holds r ≠ some a := fun held => by
    have index := (agrees.bound r a).mpr held
    rw [(agrees.absent a (out a held)).1] at index
    exact Option.some_ne_none r index.symm
  constructor
  · grind [Function.update_apply, agrees.admitted]
  · grind [Function.update_apply, agrees.absent]
  · intro j signing
    by_cases same : j = i
    · subst same
      simp at signing
    · rw [Function.update_of_ne same] at signing ⊢
      obtain ⟨kind, out, settled | known⟩ := agrees.signing j signing
      · exact absurd (List.mem_singleton.mp settled) same
      · exact ⟨kind, out, .inr known⟩
  · intro q j pending
    obtain ⟨signing, settled⟩ := agrees.pending q j pending
    rw [Function.update_of_ne (List.mem_singleton.not.mp settled)]
    exact ⟨signing, List.not_mem_nil⟩
  · exact agrees.onePending
  · intro q j
    have bound := agrees.bound q j
    by_cases same : j = i
    · subst same
      by_cases own : q = r
      · simp [own]
      · rw [(agrees.absent j away).1] at bound
        simpa [Function.update_of_ne own, Ne.symm own] using bound
    · rw [Function.update_of_ne same]
      by_cases own : q = r
      · subst own
        simpa [Ne.symm same] using bound.trans (iff_false_intro (alone j))
      · rw [Function.update_of_ne own]
        exact bound
  · exact visitors_kept agrees.visitors (agrees.absent i away).2.2.2.symm
  · simp

theorem Agrees.rekind (agrees : Agrees [] f holds pends count) {i : SlotId} {x : Tale}
    (out : (f i).admitted = false) (idle : (f i).signing = false) (admitted : x.admitted = false)
    (signing : x.signing = false) (index : x.index = none) (visitor : x.visitor = false) (numbered : x.numbered = false)
    (classed : x.classed = false) : Agrees [] (Function.update f i x) holds pends count where
  admitted := by grind [Function.update_apply, agrees.admitted]
  absent := by grind [Function.update_apply, agrees.absent]
  signing := by grind [Function.update_apply, agrees.signing]
  pending := by grind [Function.update_apply, agrees.pending]
  onePending := agrees.onePending
  bound := bound_kept agrees.bound (index.trans (agrees.absent i out).1.symm)
  visitors := visitors_kept agrees.visitors (visitor.trans (agrees.absent i out).2.2.2.symm)
  unsettled := by simp

/-- With no slot admitted or signing on, no record names a slot. -/
theorem Agrees.alone (agrees : Agrees S f holds pends count)
    (alone : ∀ i, (f i).admitted = false ∧ (f i).signing = false) (r : RecordId) :
    holds r = none ∧ pends r = none := by
  constructor
  · rw [Option.eq_none_iff_forall_ne_some]
    intro i held
    have index := (agrees.bound r i).mpr held
    rw [(agrees.absent i (alone i).1).1] at index
    exact Option.some_ne_none r index.symm
  · rw [Option.eq_none_iff_forall_ne_some]
    exact fun i pending => absurd ((alone i).2.symm.trans (agrees.pending r i pending).1) (by decide)

end

/-! ### The agreement of a state -/

/-- The agreement of the state, with the slots `S` unsettled. -/
def AdmissionBut (S : List SlotId) (s : State) : Prop :=
  Agrees S (fun i => (s.slot i).tale) (admittedAt s) (pendingAt s) s.visitors.count

section
variable {s t : State} {S : List SlotId}

theorem pendingAt_eq_some {r : RecordId} {i : SlotId} :
    pendingAt s r = some i ↔ ∃ x, s.record r = some x ∧ x.pendingSlot = some i := Option.bind_eq_some_iff

theorem admittedAt_eq_some {r : RecordId} {i : SlotId} :
    admittedAt s r = some i ↔ ∃ x, s.record r = some x ∧ x.admittedSlot = some i := Option.bind_eq_some_iff

theorem signing_not_admitted {r : Slot} (signing : r.signingOn = true) : r.isAdmitted = false := by
  obtain state | state := (signingOn_iff r).mp signing <;> rw [Slot.isAdmitted, state] <;> rfl

theorem admissionSound_iff : AdmissionSound s ↔ AdmissionBut [] s := by
  have visitor (b : Bool) (o : Option RecordId) : (o.isSome = true ↔ b = false) ↔ b = !o.isSome := by
    cases b <;> cases o <;> simp
  constructor
  · intro sound
    exact {
      admitted := fun i admitted => by
        obtain ⟨kind, number, cls, story⟩ := sound.admitted i admitted
        exact ⟨kind, number, cls, (visitor _ _).mp story⟩
      absent := fun i out => by
        obtain ⟨index, number, cls, story⟩ := sound.absent i out
        simp [Slot.tale, index, number, cls, story]
      signing := fun i signing => by
        obtain ⟨kind, challenge, r, pending⟩ := sound.signing i signing
        exact ⟨kind, signing_not_admitted signing, .inr ⟨challenge, r, pendingAt_eq_some.mpr pending⟩⟩
      pending := fun r i pending => by
        obtain ⟨x, held, pending⟩ := pendingAt_eq_some.mp pending
        exact ⟨sound.pending r x i held pending, List.not_mem_nil⟩
      onePending := fun r q i first second => by
        obtain ⟨x, held, pending⟩ := pendingAt_eq_some.mp first
        obtain ⟨y, held', pending'⟩ := pendingAt_eq_some.mp second
        exact sound.onePending r q x y i held held' pending pending'
      bound := fun r i => (sound.bound r i).trans admittedAt_eq_some.symm
      visitors := sound.visitors
      unsettled := fun i member => (List.not_mem_nil member).elim }
  · intro agrees
    exact {
      admitted := fun i admitted => by
        obtain ⟨kind, number, cls, story⟩ := agrees.admitted i admitted
        exact ⟨kind, number, cls, (visitor _ _).mpr story⟩
      absent := fun i out => by
        obtain ⟨index, number, cls, story⟩ := agrees.absent i out
        exact ⟨index, Option.not_isSome_iff_eq_none.mp (by simpa [Slot.tale] using number),
          Option.not_isSome_iff_eq_none.mp (by simpa [Slot.tale] using cls), story⟩
      signing := fun i signing => by
        obtain ⟨kind, -, settled | ⟨challenge, r, pending⟩⟩ := agrees.signing i signing
        · exact (List.not_mem_nil settled).elim
        · exact ⟨kind, challenge, r, pendingAt_eq_some.mp pending⟩
      pending := fun r x i held pending => (agrees.pending r i (pendingAt_eq_some.mpr ⟨x, held, pending⟩)).1
      onePending := fun r q x y i held held' pending pending' =>
        agrees.onePending r q i (pendingAt_eq_some.mpr ⟨x, held, pending⟩) (pendingAt_eq_some.mpr ⟨y, held', pending'⟩)
      bound := fun r i => (agrees.bound r i).trans admittedAt_eq_some
      visitors := agrees.visitors }

/-- The agreement reads tales, admitted and pending slots, and the count. -/
theorem AdmissionBut.congr (agrees : AdmissionBut S s) (slot : ∀ i, (t.slot i).tale = (s.slot i).tale)
    (admitted : ∀ r, admittedAt t r = admittedAt s r) (pending : ∀ r, pendingAt t r = pendingAt s r)
    (count : t.visitors.count = s.visitors.count) : AdmissionBut S t := by
  unfold AdmissionBut
  rw [funext slot, funext admitted, funext pending, count]
  exact agrees

theorem Slot.Quiet.tale {r t : Slot} (quiet : r.Quiet t) : t.tale = r.tale := by
  simp only [Slot.tale, quiet.kind, quiet.admitted, quiet.signing, quiet.challenge, quiet.boundIndex, quiet.visitor,
    quiet.number, quiet.admissionClass]

theorem tale_onSlot (i : SlotId) (f : Slot → Slot) (s : State) :
    (fun j => ((onSlot i f s).slot j).tale) = Function.update (fun j => (s.slot j).tale) i (f (s.slot i)).tale := by
  funext j
  rw [slot_onSlot, Function.update_apply]
  by_cases same : i = j
  · subst same
    simp
  · rw [if_neg same, if_neg fun same' => same same'.symm]

theorem slot_onRecord (r : RecordId) (g : Record → Record) (s : State) (j : SlotId) :
    (onRecord r g s).slot j = s.slot j := rfl

theorem admittedAt_withRecord (r : RecordId) (o : Option Record) (s : State) :
    admittedAt (s.withRecord r o) = Function.update (admittedAt s) r (o.bind Record.admittedSlot) := by
  funext q
  unfold admittedAt
  rw [record_withRecord, Function.update_apply]
  by_cases same : r = q
  · rw [if_pos same, if_pos same.symm]
  · rw [if_neg same, if_neg fun same' => same same'.symm]

theorem pendingAt_withRecord (r : RecordId) (o : Option Record) (s : State) :
    pendingAt (s.withRecord r o) = Function.update (pendingAt s) r (o.bind Record.pendingSlot) := by
  funext q
  unfold pendingAt
  rw [record_withRecord, Function.update_apply]
  by_cases same : r = q
  · rw [if_pos same, if_pos same.symm]
  · rw [if_neg same, if_neg fun same' => same same'.symm]

/-- A record written with the slots that it had leaves the agreement. -/
theorem AdmissionBut.withRecord (agrees : AdmissionBut S s) {r : RecordId} {o : Option Record}
    (admitted : o.bind Record.admittedSlot = admittedAt s r) (pending : o.bind Record.pendingSlot = pendingAt s r) :
    AdmissionBut S (s.withRecord r o) := by
  refine agrees.congr (fun _ => rfl) (fun q => ?_) (fun q => ?_) rfl
  · rw [admittedAt_withRecord, admitted, Function.update_eq_self]
  · rw [pendingAt_withRecord, pending, Function.update_eq_self]

/-- A slot changed in nothing that the agreement reads leaves it. -/
theorem AdmissionBut.onSlot (agrees : AdmissionBut S s) {i : SlotId} {f : Slot → Slot}
    (tale : (f (s.slot i)).tale = (s.slot i).tale) : AdmissionBut S (onSlot i f s) := by
  refine agrees.congr (fun j => ?_) (fun _ => rfl) (fun _ => rfl) rfl
  rw [slot_onSlot]
  split
  next same => exact same ▸ tale
  · rfl

/-! ### The moves -/

theorem admittedAt_releaseAdmission (r : Slot) (s : State) : admittedAt (releaseAdmission r s) =
    r.boundIndex.elim (admittedAt s) fun q => Function.update (admittedAt s) q none := by
  unfold releaseAdmission
  split
  next q index =>
    rw [index]
    refine (admittedAt_withRecord ..).trans (congrArg (Function.update _ q) ?_)
    cases s.record q <;> rfl
  next index =>
    rw [index]
    split <;> rfl

theorem pendingAt_releaseAdmission (r : Slot) (s : State) : pendingAt (releaseAdmission r s) = pendingAt s := by
  unfold releaseAdmission
  split
  next q index =>
    refine (pendingAt_withRecord ..).trans ?_
    rw [Function.update_eq_self_iff]
    unfold pendingAt
    cases s.record q <;> rfl
  next index => split <;> rfl

/-- Every move keeps the agreement, with the slots that its ledger names unsettled. -/
theorem move_admissionBut {L M : Ledger} (m : Move (L, s) (M, t)) (agrees : AdmissionBut L.stopped s) :
    AdmissionBut M.stopped t := by
  cases m with
  | slots v quiet => exact agrees.congr (fun i => (quiet i).tale) (fun _ => rfl) (fun _ => rfl) rfl
  | contexts | engine | events | records | barred => exact agrees
  | tables _ _ _ _ _ _ count => exact agrees.congr (fun _ => rfl) (fun _ => rfl) (fun _ => rfl) count
  | judge r x y held admitted pending =>
    refine agrees.withRecord ?_ ?_
    · simp [admittedAt, held, admitted]
    · simp [pendingAt, held, pending]
  | bar r x held =>
    refine agrees.withRecord ?_ ?_
    · simp [admittedAt, held]
    · simp [pendingAt, held]
  | @stop S B _ i o signing named found =>
    have stopped := Agrees.stop agrees (o := o) signing (fun r same => pendingAt_eq_some.mpr (named r same))
      fun none r pending => by
        obtain ⟨x, held, pending⟩ := pendingAt_eq_some.mp pending
        exact found none r x held pending
    unfold AdmissionBut
    rw [tale_onSlot]
    cases o with
    | none => exact stopped
    | some r =>
      have admitted : admittedAt (onRecord r (fun x => { x with pendingSlot := none }) s) = admittedAt s := by
        refine (admittedAt_withRecord ..).trans ?_
        rw [Function.update_eq_self_iff]
        unfold admittedAt
        cases s.record r <;> rfl
      have pending : pendingAt (onRecord r (fun x => { x with pendingSlot := none }) s) =
          Function.update (pendingAt s) r none := by
        refine (pendingAt_withRecord ..).trans (congrArg (Function.update _ r) ?_)
        cases s.record r <;> rfl
      change Agrees _ _ (admittedAt (onRecord r _ s)) (pendingAt (onRecord r _ s)) _
      rw [admitted, pending]
      exact stopped
  | hear i idle heard =>
    obtain ⟨kind, locked⟩ | ⟨r, x, held, pending⟩ := heard
    · exact Agrees.hear agrees idle ⟨kind, by rw [Slot.tale, Slot.isAdmitted, locked]; rfl⟩
    · have signing := (Agrees.pending agrees r i (pendingAt_eq_some.mpr ⟨x, held, pending⟩)).1
      exact absurd (idle.symm.trans signing) (by decide)
  | settle i a ends =>
    have settled := Agrees.settle agrees
    unfold AdmissionBut
    rw [tale_onSlot]
    obtain rfl | rfl := ends <;> exact settled
  | lockOut i admitted =>
    have locked := Agrees.lockOut agrees admitted
    unfold AdmissionBut
    rw [tale_onSlot]
    change Agrees _ (Function.update (fun j => ((releaseAdmission (s.slot i) s).slot j).tale) i _)
      (admittedAt (releaseAdmission (s.slot i) s)) (pendingAt (releaseAdmission (s.slot i) s))
      (releaseAdmission (s.slot i) s).visitors.count
    have slots : (fun j => ((releaseAdmission (s.slot i) s).slot j).tale) = fun j => (s.slot j).tale :=
      funext fun j => congrArg Slot.tale (slot_releaseAdmission ..)
    have count : (releaseAdmission (s.slot i) s).visitors.count = s.visitors.count - (s.slot i).visitor.toNat := by
      obtain ⟨-, -, -, story⟩ := Agrees.admitted agrees i admitted
      have story : (s.slot i).visitor = !(s.slot i).boundIndex.isSome := story
      unfold releaseAdmission
      split
      next index => simp [story, index, onRecord]
      next index => simp [story, index]
    rw [slots, admittedAt_releaseAdmission, pendingAt_releaseAdmission, count, slot_releaseAdmission]
    exact locked
  | challenge i r x v kind locked held pending =>
    have challenged := Agrees.challenge agrees (r := r) (i := i) kind
      (by rw [Slot.tale, Slot.isAdmitted, locked]; rfl) (by rw [Slot.tale, Slot.signingOn, locked]; rfl)
      (by simp [pendingAt, held, pending])
    have admitted : admittedAt (onRecord r (fun x => { x with pendingSlot := some i }) s) = admittedAt s := by
      refine (admittedAt_withRecord ..).trans ?_
      rw [Function.update_eq_self_iff]
      unfold admittedAt
      cases s.record r <;> rfl
    have pending : pendingAt (onRecord r (fun x => { x with pendingSlot := some i }) s) =
        Function.update (pendingAt s) r (some i) := by
      refine (pendingAt_withRecord ..).trans (congrArg (Function.update _ r) ?_)
      rw [held]
      rfl
    unfold AdmissionBut
    rw [tale_onSlot]
    change Agrees _ (Function.update (fun j => (s.slot j).tale) i _) (admittedAt (onRecord r _ s))
      (pendingAt (onRecord r _ s)) _
    rw [admitted, pending]
    have tale : { (s.slot i).tale with signing := true, challenged := true } = Slot.tale { s.slot i with
        admission := .challenged, challenge := some v, responseTimer := some { elapsed := 0, due := false } } := by
      rw [Slot.tale, Slot.isAdmitted, locked]
      rfl
    exact tale ▸ challenged
  | visitor i n k kind locked room =>
    have admitted := Agrees.visitor agrees (i := i) kind (by rw [Slot.tale, Slot.isAdmitted, locked]; rfl)
      (by rw [Slot.tale, Slot.signingOn, locked]; rfl)
    unfold AdmissionBut
    rw [tale_onSlot]
    have tale : { (s.slot i).tale with
        admitted := true, visitor := true, numbered := true, classed := true, index := none } =
        Slot.tale { s.slot i with
          admission := .admitted, visitor := true, number := some n, admissionClass := some k, boundIndex := none } := by
      rw [Slot.tale, Slot.signingOn, locked]
      rfl
    exact tale ▸ admitted
  | enrol i r x n k stamp held out =>
    have admitted := Agrees.enrol (r := r) agrees fun a held' => by
      obtain ⟨y, held', slot⟩ := admittedAt_eq_some.mp held'
      exact out a (Option.some.inj (held.symm.trans held') ▸ slot)
    have holds (u : State) (present : u.record r = some x) :
        admittedAt (onRecord r (fun y => { y with admittedSlot := some i, lastSignOn := some stamp }) u) =
          Function.update (admittedAt u) r (some i) := by
      refine (admittedAt_withRecord ..).trans (congrArg (Function.update _ r) ?_)
      rw [present]
      rfl
    have pends (u : State) :
        pendingAt (onRecord r (fun y => { y with admittedSlot := some i, lastSignOn := some stamp }) u) = pendingAt u := by
      refine (pendingAt_withRecord ..).trans ?_
      rw [Function.update_eq_self_iff]
      unfold pendingAt
      cases u.record r <;> rfl
    unfold AdmissionBut
    rw [holds (onSlot i _ s) held, pends]
    simp only [slot_onRecord]
    rw [tale_onSlot]
    exact admitted
  | opens c x =>
    exact AdmissionBut.onSlot (AdmissionBut.onSlot (s := s.withContext c (some x)) agrees rfl) rfl
  | free c x =>
    exact AdmissionBut.onSlot (i := x.ext) (f := fun r => { r with partners := r.partners.filter (· != c) })
      (AdmissionBut.onSlot (i := x.tie) (f := fun r => { r with boundContext := none }) agrees rfl) rfl
  | rekind i k n unused =>
    have idle : (s.slot i).isAdmitted = false ∧ (s.slot i).signingOn = false := by
      by_cases kind : (s.slot i).kind = .extension
      · rw [Slot.inUse, kind] at unused
        simp only [Bool.or_eq_false_iff] at unused
        exact ⟨unused.1.2, unused.1.1⟩
      · constructor
        · by_contra admitted
          exact kind (Agrees.admitted agrees i (Bool.not_eq_false _ ▸ admitted)).1
        · by_contra signing
          exact kind (Agrees.signing agrees i (Bool.not_eq_false _ ▸ signing)).1
    unfold AdmissionBut
    rw [tale_onSlot]
    exact Agrees.rekind agrees idle.1 idle.2 rfl rfl rfl rfl rfl rfl
  | file r o unused fresh =>
    have none (o : Option Record) (unused : ∀ y, o = some y → y.inUse = false) :
        o.bind Record.admittedSlot = none ∧ o.bind Record.pendingSlot = none := by
      cases o with
      | none => exact ⟨rfl, rfl⟩
      | some y =>
        have free := unused y rfl
        simpa [Record.inUse] using free
    obtain ⟨admitted, pending⟩ := none (s.record r) unused
    obtain ⟨admitted', pending'⟩ := none o fun y same => (fresh y same).1
    exact agrees.withRecord (admitted'.trans admitted.symm) (pending'.trans pending.symm)
  | erase alone closed =>
    have gone := Agrees.alone agrees alone
    exact agrees.congr (fun _ => rfl) (fun r => by rw [(gone r).1]; simp [admittedAt, State.record])
      (fun r => by rw [(gone r).2]; simp [pendingAt, State.record]) rfl

theorem moves_admissionBut {a b : Ledger × State} (m : Relation.ReflTransGen Move a b)
    (agrees : AdmissionBut a.1.stopped a.2) : AdmissionBut b.1.stopped b.2 := by
  induction m with
  | refl => exact agrees
  | tail _ m ih => exact move_admissionBut m ih

theorem reset_admissionBut : AdmissionBut [] State.reset := by
  have slots : (fun i => (State.reset.slot i).tale) = fun _ => Slot.initial.tale := funext fun i => by rw [slot_reset]
  have holds : admittedAt State.reset = fun _ => none := funext fun r => by rw [admittedAt, record_reset]; rfl
  have pends : pendingAt State.reset = fun _ => none := funext fun r => by rw [pendingAt, record_reset]; rfl
  unfold AdmissionBut
  rw [slots, holds, pends]
  exact ⟨nofun, fun _ _ => ⟨rfl, rfl, rfl, rfl⟩, nofun, nofun, nofun, fun _ _ => by simp [Slot.tale, Slot.initial],
    by simp [Slot.tale, Slot.initial, State.reset], nofun⟩

theorem admission_law : Law (AdmissionBut []) where
  moves m := moves_admissionBut m
  port _ _ agrees := agrees
  rest _ _ _ agrees := agrees
  reset := reset_admissionBut

/-- Settles O11. -/
theorem admissionStaysSound : Obligations.AdmissionStaysSound := fun _ _ sound stepped =>
  admissionSound_iff.mpr (admission_law.keeps_step stepped (admissionSound_iff.mp sound))

end

end Sys2Proof.Machine
end

section
/-! PROOFS. Every step keeps tie bindings and partner lists equal to what the contexts name (R28), and every open call with an
admitted partner whose record is not BARRED (R108, R114). -/

namespace Sys2Proof.Machine

open Sys2Proof.Safety

/-! ### Bindings -/

/-- The bindings of `BindingsSound`: the ends of each context, and the kind, bound context and partners of each slot. -/
structure Bound (ends : ContextId → Option (SlotId × SlotId)) (kind : SlotId → Kind)
    (bound : SlotId → Option ContextId) (partners : SlotId → List ContextId) : Prop where
  context : ∀ c tie ext, ends c = some (tie, ext) →
    kind tie = .tie ∧ bound tie = some c ∧ kind ext = .extension ∧ c ∈ partners ext
  bound : ∀ i c, bound i = some c → ∃ ext, ends c = some (i, ext)
  partner : ∀ i c, c ∈ partners i → ∃ tie, ends c = some (tie, i)
  places : ∀ i, (partners i).Nodup ∧ (partners i).length ≤ 4

section
variable {ends : ContextId → Option (SlotId × SlotId)} {kind : SlotId → Kind} {bound : SlotId → Option ContextId}
  {partners : SlotId → List ContextId}

theorem Bound.opens (sound : Bound ends kind bound partners) {c : ContextId} {tie ext : SlotId} (free : ends c = none)
    (tieKind : kind tie = .tie) (unbound : bound tie = none) (extKind : kind ext = .extension)
    (room : (partners ext).length < 4) : Bound (Function.update ends c (some (tie, ext))) kind
      (Function.update bound tie (some c)) (Function.update partners ext (partners ext ++ [c])) where
  context d tie' ext' named := by
    by_cases same : d = c
    · subst same
      rw [Function.update_self, Option.some.injEq, Prod.mk.injEq] at named
      obtain ⟨rfl, rfl⟩ := named
      simp [tieKind, extKind]
    · rw [Function.update_of_ne same] at named
      obtain ⟨kind, tied, kind', partner⟩ := sound.context d tie' ext' named
      have other : tie' ≠ tie := fun same => by simp [same, unbound] at tied
      refine ⟨kind, by rw [Function.update_of_ne other, tied], kind', ?_⟩
      by_cases same' : ext' = ext
      · subst same'
        simp [partner]
      · rwa [Function.update_of_ne same']
  bound i d tied := by
    by_cases same : i = tie
    · subst same
      rw [Function.update_self, Option.some.injEq] at tied
      exact ⟨ext, by rw [← tied, Function.update_self]⟩
    · rw [Function.update_of_ne same] at tied
      obtain ⟨ext', named⟩ := sound.bound i d tied
      have other : d ≠ c := fun same => by simp [same, free] at named
      exact ⟨ext', (Function.update_of_ne other ..).trans named⟩
  partner i d member := by
    have known (member : d ∈ partners i) : ∃ tie', Function.update ends c (some (tie, ext)) d = some (tie', i) := by
      obtain ⟨tie', named⟩ := sound.partner i d member
      have other : d ≠ c := fun same => by simp [same, free] at named
      exact ⟨tie', (Function.update_of_ne other ..).trans named⟩
    by_cases same : i = ext
    · subst same
      rw [Function.update_self] at member
      obtain member | new := List.mem_append.mp member
      · exact known member
      · exact ⟨tie, by rw [List.mem_singleton.mp new, Function.update_self]⟩
    · rw [Function.update_of_ne same] at member
      exact known member
  places i := by
    by_cases same : i = ext
    · subst same
      rw [Function.update_self]
      have fresh : c ∉ partners i := fun member => by
        obtain ⟨tie', named⟩ := sound.partner i c member
        simp [free] at named
      refine ⟨List.nodup_append.mpr ⟨(sound.places i).1, List.nodup_singleton c, ?_⟩, by simpa using room⟩
      intro d member e new same
      exact fresh (List.mem_singleton.mp new ▸ same ▸ member)
    · rw [Function.update_of_ne same]
      exact sound.places i

theorem Bound.free (sound : Bound ends kind bound partners) {c : ContextId} {tie ext : SlotId}
    (held : ends c = some (tie, ext)) : Bound (Function.update ends c none) kind
      (Function.update bound tie none) (Function.update partners ext ((partners ext).filter (· != c))) where
  context d tie' ext' named := by
    have other : d ≠ c := fun same => by simp [same] at named
    rw [Function.update_of_ne other] at named
    obtain ⟨kind, tied, kind', partner⟩ := sound.context d tie' ext' named
    have apart : tie' ≠ tie := fun same => by
      obtain ⟨-, tied', -⟩ := sound.context c tie ext held
      exact other (Option.some.inj (tied.symm.trans (same ▸ tied')))
    refine ⟨kind, by rw [Function.update_of_ne apart, tied], kind', ?_⟩
    by_cases same' : ext' = ext
    · subst same'
      simp [partner, other]
    · rwa [Function.update_of_ne same']
  bound i d tied := by
    have other : i ≠ tie := fun same => by simp [same] at tied
    rw [Function.update_of_ne other] at tied
    obtain ⟨ext', named⟩ := sound.bound i d tied
    have apart : d ≠ c := fun same => by
      rw [same, held, Option.some.injEq, Prod.mk.injEq] at named
      exact other named.1.symm
    exact ⟨ext', (Function.update_of_ne apart ..).trans named⟩
  partner i d member := by
    have known (member : d ∈ partners i) (apart : d ≠ c) : ∃ tie', Function.update ends c none d = some (tie', i) := by
      obtain ⟨tie', named⟩ := sound.partner i d member
      exact ⟨tie', (Function.update_of_ne apart ..).trans named⟩
    by_cases same : i = ext
    · subst same
      rw [Function.update_self] at member
      obtain ⟨member, apart⟩ := List.mem_filter.mp member
      exact known member (by simpa using apart)
    · rw [Function.update_of_ne same] at member
      refine known member fun same' => ?_
      obtain ⟨tie', named⟩ := sound.partner i d member
      rw [same', held, Option.some.injEq, Prod.mk.injEq] at named
      exact same named.2.symm
  places i := by
    by_cases same : i = ext
    · subst same
      rw [Function.update_self]
      exact ⟨(sound.places i).1.filter _, Nat.le_trans (List.length_filter_le ..) (sound.places i).2⟩
    · rw [Function.update_of_ne same]
      exact sound.places i

theorem Bound.rekind (sound : Bound ends kind bound partners) {i : SlotId} (k : Kind) (unbound : bound i = none)
    (alone : partners i = []) : Bound ends (Function.update kind i k) bound partners where
  context c tie ext named := by
    obtain ⟨kind, tied, kind', partner⟩ := sound.context c tie ext named
    have other : tie ≠ i := fun same => by simp [same, unbound] at tied
    have other' : ext ≠ i := fun same => by simp [same, alone] at partner
    rw [Function.update_of_ne other, Function.update_of_ne other']
    exact ⟨kind, tied, kind', partner⟩
  bound := sound.bound
  partner := sound.partner
  places := sound.places

end

section
variable {s t : State}

/-- The tie slot and the extension slot of a context. -/
def endsAt (s : State) (c : ContextId) : Option (SlotId × SlotId) := (s.context c).map fun x => (x.tie, x.ext)

theorem endsAt_eq_some {c : ContextId} {tie ext : SlotId} :
    endsAt s c = some (tie, ext) ↔ ∃ x, s.context c = some x ∧ x.tie = tie ∧ x.ext = ext := by
  simp [endsAt, Option.map_eq_some_iff]

theorem bindingsSound_iff : BindingsSound s ↔ Bound (endsAt s) (fun i => (s.slot i).kind)
    (fun i => (s.slot i).boundContext) (fun i => (s.slot i).partners) := by
  constructor
  · intro sound
    exact {
      context := fun c tie ext named => by
        obtain ⟨x, held, rfl, rfl⟩ := endsAt_eq_some.mp named
        exact sound.context c x held
      bound := fun i c tied => by
        obtain ⟨x, held, rfl⟩ := sound.bound i c tied
        exact ⟨x.ext, endsAt_eq_some.mpr ⟨x, held, rfl, rfl⟩⟩
      partner := fun i c member => by
        obtain ⟨x, held, rfl⟩ := sound.partner i c member
        exact ⟨x.tie, endsAt_eq_some.mpr ⟨x, held, rfl, rfl⟩⟩
      places := sound.places }
  · intro sound
    exact {
      context := fun c x held => sound.context c x.tie x.ext (endsAt_eq_some.mpr ⟨x, held, rfl, rfl⟩)
      bound := fun i c tied => by
        obtain ⟨ext, named⟩ := sound.bound i c tied
        obtain ⟨x, held, tie, -⟩ := endsAt_eq_some.mp named
        exact ⟨x, held, tie⟩
      partner := fun i c member => by
        obtain ⟨tie, named⟩ := sound.partner i c member
        obtain ⟨x, held, -, ext⟩ := endsAt_eq_some.mp named
        exact ⟨x, held, ext⟩
      places := sound.places }

/-- The bindings read the ends of contexts and three fields of a slot. -/
theorem bindingsSound_congr (sound : BindingsSound s) (ends : ∀ c, endsAt t c = endsAt s c)
    (kind : ∀ i, (t.slot i).kind = (s.slot i).kind) (bound : ∀ i, (t.slot i).boundContext = (s.slot i).boundContext)
    (partners : ∀ i, (t.slot i).partners = (s.slot i).partners) : BindingsSound t := by
  rw [bindingsSound_iff, funext ends, funext kind, funext bound, funext partners]
  exact bindingsSound_iff.mp sound

/-- A slot field after a change of one slot. -/
theorem field_onSlot {α : Type} (get : Slot → α) (i : SlotId) (f : Slot → Slot) (s : State) :
    (fun j => get ((onSlot i f s).slot j)) = Function.update (fun j => get (s.slot j)) i (get (f (s.slot i))) := by
  funext j
  rw [slot_onSlot, Function.update_apply]
  by_cases same : i = j
  · subst same
    simp
  · rw [if_neg same, if_neg fun same' => same same'.symm]

theorem field_onSlot_same {α : Type} {get : Slot → α} {i : SlotId} {f : Slot → Slot} {s : State}
    (kept : get (f (s.slot i)) = get (s.slot i)) (j : SlotId) : get ((onSlot i f s).slot j) = get (s.slot j) := by
  rw [slot_onSlot]
  split
  next same => exact same ▸ kept
  · rfl

theorem bindingsSound_onSlot (sound : BindingsSound s) {i : SlotId} {f : Slot → Slot}
    (kind : (f (s.slot i)).kind = (s.slot i).kind) (bound : (f (s.slot i)).boundContext = (s.slot i).boundContext)
    (partners : (f (s.slot i)).partners = (s.slot i).partners) : BindingsSound (onSlot i f s) :=
  bindingsSound_congr sound (fun _ => rfl) (field_onSlot_same kind) (field_onSlot_same bound)
    (field_onSlot_same partners)

theorem bindingsSound_withRecord (sound : BindingsSound s) {r : RecordId} {o : Option Record} :
    BindingsSound (s.withRecord r o) :=
  bindingsSound_congr sound (fun _ => rfl) (fun _ => rfl) (fun _ => rfl) (fun _ => rfl)

theorem bindingsSound_withVisitors (sound : BindingsSound s) {v : Visitors} : BindingsSound { s with visitors := v } :=
  bindingsSound_congr sound (fun _ => rfl) (fun _ => rfl) (fun _ => rfl) (fun _ => rfl)

section
variable (tie ext : SlotId) (b : Option ContextId) (g : List ContextId → List ContextId) (s : State)

/-- A bound context and a partner list written on two slots. -/
def writeBindings : State :=
  onSlot ext (fun r => { r with partners := g r.partners }) (onSlot tie (fun r => { r with boundContext := b }) s)

theorem writeBindings_kind : (fun j => ((writeBindings tie ext b g s).slot j).kind) = fun j => (s.slot j).kind :=
  funext fun j => (field_onSlot_same (get := Slot.kind) (i := ext) (f := fun r => { r with partners := g r.partners })
    rfl j).trans (field_onSlot_same (get := Slot.kind) (i := tie) (f := fun r => { r with boundContext := b }) rfl j)

theorem writeBindings_bound : (fun j => ((writeBindings tie ext b g s).slot j).boundContext) =
    Function.update (fun j => (s.slot j).boundContext) tie b := by
  rw [← field_onSlot Slot.boundContext tie fun r => { r with boundContext := b }]
  exact funext fun j => field_onSlot_same (get := Slot.boundContext) (i := ext)
    (f := fun r => { r with partners := g r.partners }) rfl j

theorem writeBindings_partners : (fun j => ((writeBindings tie ext b g s).slot j).partners) =
    Function.update (fun j => (s.slot j).partners) ext (g (s.slot ext).partners) := by
  have before : (fun j => ((onSlot tie (fun r => { r with boundContext := b }) s).slot j).partners) =
      fun j => (s.slot j).partners := funext fun j => field_onSlot_same (get := Slot.partners) (i := tie)
    (f := fun r => { r with boundContext := b }) rfl j
  have here : ((onSlot tie (fun r => { r with boundContext := b }) s).slot ext).partners = (s.slot ext).partners :=
    congrFun before ext
  rw [writeBindings, field_onSlot Slot.partners, before]
  dsimp only
  rw [here]

end

theorem endsAt_withContext (c : ContextId) (o : Option Context) (s : State) :
    endsAt (s.withContext c o) = Function.update (endsAt s) c (o.map fun x => (x.tie, x.ext)) := by
  funext d
  unfold endsAt
  rw [context_withContext, Function.update_apply]
  by_cases same : c = d
  · rw [if_pos same, if_pos same.symm]
  · rw [if_neg same, if_neg fun same' => same same'.symm]

/-- Where a slot takes a kind and loses its bindings, or has none. -/
theorem unused_bindings (sound : BindingsSound s) {i : SlotId} (unused : (s.slot i).inUse = false) :
    (s.slot i).boundContext = none ∧ (s.slot i).partners = [] := by
  have tied {c : ContextId} (bound : (s.slot i).boundContext = some c) : (s.slot i).kind = .tie := by
    obtain ⟨x, held, rfl⟩ := sound.bound i c bound
    exact (sound.context c x held).1
  have partnered {c : ContextId} (member : c ∈ (s.slot i).partners) : (s.slot i).kind = .extension := by
    obtain ⟨x, held, rfl⟩ := sound.partner i c member
    exact (sound.context c x held).2.2.1
  constructor
  · cases bound : (s.slot i).boundContext with
    | none => rfl
    | some c => simp [Slot.inUse, tied bound, bound] at unused
  · cases partners : (s.slot i).partners with
    | nil => rfl
    | cons c rest =>
      have kind := partnered (c := c) (by rw [partners]; exact List.mem_cons_self)
      simp [Slot.inUse, kind, partners] at unused

theorem move_bindingsSound {L M : Ledger} (m : Move (L, s) (M, t)) (sound : BindingsSound s) : BindingsSound t := by
  cases m with
  | slots v quiet =>
    exact bindingsSound_congr sound (fun _ => rfl) (fun i => (quiet i).kind) (fun i => (quiet i).boundContext)
      fun i => (quiet i).partners
  | contexts v quiet =>
    refine bindingsSound_congr sound (fun c => ?_) (fun _ => rfl) (fun _ => rfl) (fun _ => rfl)
    have rel := quiet c
    change Option.map (fun x => (x.tie, x.ext)) v[c] = Option.map (fun x => (x.tie, x.ext)) (s.context c)
    generalize s.context c = before at rel
    generalize v[c] = after at rel
    cases rel with
    | none => rfl
    | some quiet => simp only [Option.map_some, quiet.tie, quiet.ext]
  | judge | bar | file => exact bindingsSound_withRecord sound
  | engine | events | records | tables | erase =>
    exact bindingsSound_congr sound (fun _ => rfl) (fun _ => rfl) (fun _ => rfl) (fun _ => rfl)
  | barred | hear => exact sound
  | stop i o =>
    refine bindingsSound_onSlot ?_ rfl rfl rfl
    cases o with
    | none => exact sound
    | some r => exact bindingsSound_withRecord sound
  | settle i => exact bindingsSound_onSlot sound rfl rfl rfl
  | lockOut i =>
    refine bindingsSound_onSlot (bindingsSound_congr sound (fun c => ?_) (fun j => ?_) (fun j => ?_) fun j => ?_) rfl rfl rfl
    · unfold releaseAdmission
      split
      · rfl
      · split <;> rfl
    all_goals rw [slot_releaseAdmission]
  | challenge i r =>
    refine bindingsSound_onSlot (bindingsSound_withRecord sound) ?_ ?_ ?_ <;> rfl
  | visitor i =>
    refine bindingsSound_onSlot (bindingsSound_withVisitors sound) ?_ ?_ ?_ <;> rfl
  | enrol i r _ n k stamp =>
    have admitted : BindingsSound (onSlot i (fun y => { y with
          admission := .admitted, boundIndex := some r, number := some n, admissionClass := some k
          visitor := false }) s) := bindingsSound_onSlot sound rfl rfl rfl
    exact bindingsSound_withRecord admitted
  | opens c x y free phase tie unbound ext admitted index room =>
    have opened := (bindingsSound_iff.mp sound).opens (c := c) (tie := x.tie) (ext := x.ext)
      (by simp [endsAt, free]) tie unbound ext room
    rw [bindingsSound_iff]
    change Bound (endsAt (s.withContext c (some x)))
      (fun j => ((writeBindings x.tie x.ext (some c) (· ++ [c]) (s.withContext c (some x))).slot j).kind)
      (fun j => ((writeBindings x.tie x.ext (some c) (· ++ [c]) (s.withContext c (some x))).slot j).boundContext)
      (fun j => ((writeBindings x.tie x.ext (some c) (· ++ [c]) (s.withContext c (some x))).slot j).partners)
    rw [endsAt_withContext, writeBindings_kind, writeBindings_bound, writeBindings_partners]
    exact opened
  | free c x held =>
    have freed := (bindingsSound_iff.mp sound).free (c := c) (tie := x.tie) (ext := x.ext)
      (endsAt_eq_some.mpr ⟨x, held, rfl, rfl⟩)
    rw [bindingsSound_iff, endsAt_withContext]
    change Bound (Function.update (endsAt s) c none)
      (fun j => ((writeBindings x.tie x.ext none (·.filter (· != c)) s).slot j).kind)
      (fun j => ((writeBindings x.tie x.ext none (·.filter (· != c)) s).slot j).boundContext)
      (fun j => ((writeBindings x.tie x.ext none (·.filter (· != c)) s).slot j).partners)
    rw [writeBindings_kind, writeBindings_bound, writeBindings_partners]
    exact freed
  | rekind i k n unused =>
    obtain ⟨unbound, alone⟩ := unused_bindings sound unused
    have rekinded := (bindingsSound_iff.mp sound).rekind (i := i) k unbound alone
    have bound : (fun j => ((onSlot i (Slot.rekind k n) s).slot j).boundContext) = fun j => (s.slot j).boundContext :=
      funext fun j => field_onSlot_same (get := Slot.boundContext) unbound.symm j
    have partners : (fun j => ((onSlot i (Slot.rekind k n) s).slot j).partners) = fun j => (s.slot j).partners :=
      funext fun j => field_onSlot_same (get := Slot.partners) alone.symm j
    rw [bindingsSound_iff, field_onSlot Slot.kind, bound, partners]
    exact rekinded

theorem moves_bindingsSound {a b : Ledger × State} (m : Relation.ReflTransGen Move a b) (sound : BindingsSound a.2) :
    BindingsSound b.2 := moves_keep (P := BindingsSound) move_bindingsSound m sound

theorem bindings_law : Law BindingsSound where
  moves m := moves_bindingsSound m
  port _ _ sound := bindingsSound_congr sound (fun _ => rfl) (fun _ => rfl) (fun _ => rfl) (fun _ => rfl)
  rest _ _ _ sound := bindingsSound_congr sound (fun _ => rfl) (fun _ => rfl) (fun _ => rfl) (fun _ => rfl)
  reset :=
    { context := fun c x held => absurd ((context_reset c).symm.trans held) (by simp)
      bound := fun i c bound => by simp [slot_reset, Slot.initial] at bound
      partner := fun i c member => by simp [slot_reset, Slot.initial] at member
      places := fun i => by simp [slot_reset, Slot.initial] }

/-- Settles O10. -/
theorem bindingsStaySound : Obligations.BindingsStaySound :=
  fun _ _ sound stepped => bindings_law.keeps_step stepped sound

/-! ### Calls -/

/-- The law of `CallsTrusted`, with the records `B` that an operation has made BARRED and not yet parted from their slot. -/
structure CallsBut (B : List RecordId) (s : State) : Prop where
  trusted : ∀ c x, s.context c = some x → x.phase ≠ .closing →
    (s.slot x.ext).isAdmitted = true ∧ (s.slot x.ext).boundIndex = some x.index ∧
      ∃ y, s.record x.index = some y ∧ (y.standing ≠ .barred ∨ x.index ∈ B)
  clearing : ∀ c x, s.context c = some x → x.Settled

theorem callsTrusted_iff : CallsTrusted s ↔ CallsBut [] s :=
  ⟨fun calls => ⟨fun c x held live => by
      obtain ⟨admitted, index, y, record, standing⟩ := calls.trusted c x held live
      exact ⟨admitted, index, y, record, .inl standing⟩, calls.clearing⟩,
    fun calls => ⟨fun c x held live => by
      obtain ⟨admitted, index, y, record, standing⟩ := calls.trusted c x held live
      exact ⟨admitted, index, y, record, standing.resolve_right List.not_mem_nil⟩, calls.clearing⟩⟩

section
variable {B C : List RecordId}

/-- Calls that go on as they were, each with its partner and its record. -/
theorem CallsBut.of (calls : CallsBut B s)
    (contexts : ∀ c y, t.context c = some y → ∃ x, s.context c = some x ∧ x.Quiet y)
    (slots : ∀ c x, s.context c = some x → x.phase ≠ .closing → (s.slot x.ext).isAdmitted = true →
      (t.slot x.ext).isAdmitted = true ∧ (t.slot x.ext).boundIndex = (s.slot x.ext).boundIndex)
    (records : ∀ i r x, (s.slot i).isAdmitted = true → (s.slot i).boundIndex = some r → s.record r = some x →
      x.standing ≠ .barred ∨ r ∈ B → ∃ y, t.record r = some y ∧ (y.standing ≠ .barred ∨ r ∈ C)) :
    CallsBut C t where
  trusted c y held live := by
    obtain ⟨x, held, quiet⟩ := contexts c y held
    have live : x.phase ≠ .closing := fun closing => live ((quiet.settled (calls.clearing c x held)).2 closing)
    obtain ⟨admitted, index, z, record, standing⟩ := calls.trusted c x held live
    obtain ⟨admitted', index'⟩ := slots c x held live admitted
    rw [quiet.ext, quiet.index]
    exact ⟨admitted', index'.trans index, records x.ext x.index z admitted index record standing⟩
  clearing c y held := by
    obtain ⟨x, held, quiet⟩ := contexts c y held
    exact (quiet.settled (calls.clearing c x held)).1

/-- Contexts that stand. -/
theorem contexts_kept (same : ∀ c, t.context c = s.context c) (c : ContextId) (y : Context) (held : t.context c = some y) :
    ∃ x, s.context c = some x ∧ x.Quiet y := ⟨y, (same c).symm.trans held, .refl y⟩

/-- Slots of open calls that a change of another slot leaves alone. -/
theorem slots_kept {u : State} {i : SlotId} {f : Slot → Slot} (same : ∀ j, u.slot j = s.slot j)
    (out : (s.slot i).isAdmitted = false) (c : ContextId) (x : Context)
    (_ : s.context c = some x) (_ : x.phase ≠ .closing) (admitted : (s.slot x.ext).isAdmitted = true) :
    ((onSlot i f u).slot x.ext).isAdmitted = true ∧
      ((onSlot i f u).slot x.ext).boundIndex = (s.slot x.ext).boundIndex := by
  have other : i ≠ x.ext := fun own => by simp [← own, out] at admitted
  rw [slot_onSlot, if_neg other, same]
  exact ⟨admitted, rfl⟩

/-- Records whose standing stands. -/
theorem records_kept (same : ∀ r, (t.record r).map Record.standing = (s.record r).map Record.standing) (i : SlotId)
    (r : RecordId) (x : Record) (_ : (s.slot i).isAdmitted = true) (_ : (s.slot i).boundIndex = some r)
    (held : s.record r = some x) (standing : x.standing ≠ .barred ∨ r ∈ B) :
    ∃ y, t.record r = some y ∧ (y.standing ≠ .barred ∨ r ∈ B) := by
  have same := same r
  rw [held, Option.map_some] at same
  obtain ⟨y, held', standing'⟩ := Option.map_eq_some_iff.mp same
  exact ⟨y, held', by rwa [standing']⟩

theorem standing_onRecord {r : RecordId} {g : Record → Record} (kept : ∀ x, (g x).standing = x.standing) (q : RecordId) :
    ((onRecord r g s).record q).map Record.standing = (s.record q).map Record.standing := by
  rw [record_onRecord]
  split
  next same =>
    rw [Option.map_map, same]
    exact congrArg (fun f => (s.record q).map f) (funext kept)
  · rfl

end

/-- Every move keeps the calls, given that the bindings and the admissions are sound. -/
theorem move_callsBut {L M : Ledger} (m : Move (L, s) (M, t)) (agrees : AdmissionBut L.stopped s) (bindings : BindingsSound s)
    (calls : CallsBut L.barred s) : CallsBut M.barred t := by
  have same : ∀ c x, s.context c = some x → x.phase ≠ .closing → (s.slot x.ext).isAdmitted = true →
      (s.slot x.ext).isAdmitted = true ∧ (s.slot x.ext).boundIndex = (s.slot x.ext).boundIndex :=
    fun _ _ _ _ admitted => ⟨admitted, rfl⟩
  cases m with
  | slots v quiet =>
    exact calls.of (contexts_kept fun _ => rfl)
      (fun c x _ _ admitted => ⟨(quiet x.ext).admitted.trans admitted, (quiet x.ext).boundIndex⟩)
      (records_kept fun _ => rfl)
  | contexts v quiet =>
    refine calls.of (fun c y held => ?_) same (records_kept fun _ => rfl)
    have rel := quiet c
    have held : v[c] = some y := held
    rw [held] at rel
    generalize s.context c = before at rel
    cases rel with
    | some quiet => exact ⟨_, rfl, quiet⟩
  | engine | events | records | tables => exact calls.of (contexts_kept fun _ => rfl) same (records_kept fun _ => rfl)
  | judge r x y held _ _ _ barred =>
    refine calls.of (contexts_kept fun _ => rfl) same fun i q z _ _ record standing => ?_
    rw [record_withRecord]
    by_cases own : r = q
    · subst own
      rw [if_pos rfl]
      obtain rfl : x = z := Option.some.inj (held.symm.trans record)
      exact ⟨y, rfl, standing.imp_left fun fine => fine ∘ barred⟩
    · rw [if_neg own]
      exact ⟨z, record, standing⟩
  | bar r x held =>
    refine calls.of (contexts_kept fun _ => rfl) same fun i q z _ _ record standing => ?_
    rw [record_withRecord]
    by_cases own : r = q
    · rw [if_pos own]
      exact ⟨_, rfl, .inr (own ▸ List.mem_cons_self)⟩
    · rw [if_neg own]
      exact ⟨z, record, standing.imp_right (List.mem_cons_of_mem _)⟩
  | @barred S B s r out =>
    refine calls.of (contexts_kept fun _ => rfl) same fun i q z admitted index record standing => ?_
    obtain ⟨x, held, slot⟩ := admittedAt_eq_some.mp ((Agrees.bound agrees q i).mp index)
    have other : q ≠ r := fun own => by
      subst own
      exact absurd (admitted.symm.trans (out x i held slot)) (by decide)
    exact ⟨z, record, standing.imp_right fun member => (List.mem_cons.mp member).resolve_left other⟩
  | @stop S B _ i o signing =>
    have out := signing_not_admitted signing
    cases o with
    | none => exact calls.of (contexts_kept fun _ => rfl) (slots_kept (fun _ => rfl) out) (records_kept fun _ => rfl)
    | some r =>
      refine calls.of (contexts_kept fun _ => rfl) ?_ (records_kept (standing_onRecord fun _ => rfl))
      exact slots_kept (fun _ => rfl) out
  | hear => exact calls
  | settle i a =>
    exact calls.of (contexts_kept fun _ => rfl) (slots_kept (fun _ => rfl) (Agrees.unsettled agrees i List.mem_cons_self).2)
      (records_kept fun _ => rfl)
  | lockOut i admitted closed =>
    refine calls.of (contexts_kept fun c => ?_) (fun c x held live admitted' => ?_) (records_kept fun q => ?_)
    · change (releaseAdmission (s.slot i) s).context c = s.context c
      unfold releaseAdmission
      split
      · rfl
      · split <;> rfl
    · have other : i ≠ x.ext := fun own => live
        (closed c (own ▸ (bindings.context c x held).2.2.2) x held)
      rw [slot_onSlot, if_neg other, slot_releaseAdmission]
      exact ⟨admitted', rfl⟩
    · change ((releaseAdmission (s.slot i) s).record q).map Record.standing = _
      unfold releaseAdmission
      split
      · exact standing_onRecord (g := fun d => { d with admittedSlot := none }) (fun _ => rfl) q
      · split <;> rfl
  | challenge i r x v kind locked =>
    have out : (s.slot i).isAdmitted = false := by rw [Slot.isAdmitted, locked]; rfl
    refine calls.of (contexts_kept fun _ => rfl) ?_ (records_kept (standing_onRecord fun _ => rfl))
    exact slots_kept (fun _ => rfl) out
  | visitor i n k kind locked =>
    have out : (s.slot i).isAdmitted = false := by rw [Slot.isAdmitted, locked]; rfl
    refine calls.of (contexts_kept fun _ => rfl) ?_ (records_kept fun _ => rfl)
    exact slots_kept (fun _ => rfl) out
  | enrol i r x n k stamp =>
    have out := (Agrees.unsettled agrees i List.mem_cons_self).2
    refine calls.of (contexts_kept fun _ => rfl) ?_ (records_kept fun q => ?_)
    · simp only [slot_onRecord]
      exact slots_kept (fun _ => rfl) out
    · exact standing_onRecord (g := fun y => { y with admittedSlot := some i, lastSignOn := some stamp })
        (s := onSlot i _ s) (fun _ => rfl) q
  | opens c x y free phase tie unbound ext admitted index room held standing =>
    have slot (j : SlotId) :
        ((writeBindings x.tie x.ext (some c) (· ++ [c]) (s.withContext c (some x))).slot j).isAdmitted =
          (s.slot j).isAdmitted ∧
        ((writeBindings x.tie x.ext (some c) (· ++ [c]) (s.withContext c (some x))).slot j).boundIndex =
          (s.slot j).boundIndex :=
      ⟨(field_onSlot_same (get := Slot.isAdmitted) (i := x.ext) (f := fun r => { r with partners := r.partners ++ [c] })
          rfl j).trans (field_onSlot_same (get := Slot.isAdmitted) (i := x.tie)
            (f := fun r => { r with boundContext := some c }) rfl j),
        (field_onSlot_same (get := Slot.boundIndex) (i := x.ext) (f := fun r => { r with partners := r.partners ++ [c] })
          rfl j).trans (field_onSlot_same (get := Slot.boundIndex) (i := x.tie)
            (f := fun r => { r with boundContext := some c }) rfl j)⟩
    have kept (d : ContextId) (z : Context) (found : (s.withContext c (some x)).context d = some z) :
        z = x ∨ s.context d = some z := by
      rw [context_withContext] at found
      split at found
      · exact .inl (Option.some.inj found).symm
      · exact .inr found
    constructor
    · intro d z found live
      obtain ⟨admitted', index'⟩ := slot z.ext
      obtain rfl | old := kept d z found
      · exact ⟨admitted'.trans admitted, index'.trans index, y, held, .inl standing⟩
      · obtain ⟨admitted'', index'', known⟩ := calls.trusted d z old live
        exact ⟨admitted'.trans admitted'', index'.trans index'', known⟩
    · intro d z found
      obtain rfl | old := kept d z found
      · exact fun closing => absurd closing phase
      · exact calls.clearing d z old
  | free c x held =>
    refine calls.of (fun d y found => ?_) (fun d y _ _ admitted => ?_) (records_kept fun _ => rfl)
    · rw [context_withContext] at found
      split at found
      · exact (Option.some_ne_none y found.symm).elim
      · exact ⟨y, found, .refl y⟩
    · exact ⟨((field_onSlot_same (get := Slot.isAdmitted) (i := x.ext)
        (f := fun r => { r with partners := r.partners.filter (· != c) }) rfl y.ext).trans
          (field_onSlot_same (get := Slot.isAdmitted) (i := x.tie) (f := fun r => { r with boundContext := none }) rfl
            y.ext)).trans admitted,
        (field_onSlot_same (get := Slot.boundIndex) (i := x.ext)
          (f := fun r => { r with partners := r.partners.filter (· != c) }) rfl y.ext).trans
          (field_onSlot_same (get := Slot.boundIndex) (i := x.tie) (f := fun r => { r with boundContext := none }) rfl
            y.ext)⟩
  | rekind i k n unused =>
    have out : (s.slot i).isAdmitted = false := by
      by_contra admitted
      have kind := (Agrees.admitted agrees i (Bool.not_eq_false _ ▸ admitted)).1
      have kind : (s.slot i).kind = .extension := kind
      simp [Slot.inUse, kind, Bool.not_eq_false _ ▸ admitted] at unused
    exact calls.of (contexts_kept fun _ => rfl) (slots_kept (fun _ => rfl) out) (records_kept fun _ => rfl)
  | file r o unused fresh =>
    refine calls.of (contexts_kept fun _ => rfl) same fun i q z _ index record standing => ?_
    obtain ⟨x, held, slot⟩ := admittedAt_eq_some.mp ((Agrees.bound agrees q i).mp index)
    have other : r ≠ q := fun own => by
      have free := unused x (own ▸ held)
      simp [Record.inUse, slot] at free
    rw [record_withRecord, if_neg other]
    exact ⟨z, record, standing⟩
  | erase alone closed =>
    exact ⟨fun c x held => absurd ((closed c).symm.trans held) (by simp),
      fun c x held => absurd ((closed c).symm.trans held) (by simp)⟩

/-- Admissions, bindings and calls, beside what a ledger has yet to settle. -/
structure Lawful (a : Ledger × State) : Prop where
  agrees : AdmissionBut a.1.stopped a.2
  bindings : BindingsSound a.2
  calls : CallsBut a.1.barred a.2

theorem moves_lawful {a b : Ledger × State} (m : Relation.ReflTransGen Move a b) (lawful : Lawful a) : Lawful b := by
  induction m with
  | refl => exact lawful
  | tail _ m ih =>
    exact ⟨move_admissionBut m ih.agrees, move_bindingsSound m ih.bindings,
      move_callsBut m ih.agrees ih.bindings ih.calls⟩

theorem reset_callsBut : CallsBut [] State.reset :=
  ⟨fun c x held => absurd ((context_reset c).symm.trans held) (by simp),
    fun c x held => absurd ((context_reset c).symm.trans held) (by simp)⟩

theorem lawful_law : Law fun s => Lawful (.clear, s) where
  moves m := moves_lawful m
  port p bound lawful := ⟨admission_law.port p bound lawful.agrees, bindings_law.port p bound lawful.bindings,
    lawful.calls.of (contexts_kept fun _ => rfl) (fun _ _ _ _ admitted => ⟨admitted, rfl⟩) (records_kept fun _ => rfl)⟩
  rest h c q lawful := ⟨admission_law.rest h c q lawful.agrees, bindings_law.rest h c q lawful.bindings,
    lawful.calls.of (contexts_kept fun _ => rfl) (fun _ _ _ _ admitted => ⟨admitted, rfl⟩) (records_kept fun _ => rfl)⟩
  reset := ⟨reset_admissionBut, bindings_law.reset, reset_callsBut⟩

/-- Settles O12. -/
theorem callsStayTrusted : Obligations.CallsStayTrusted := fun _ _ admission bindings calls stepped =>
  callsTrusted_iff.mpr (lawful_law.keeps_step stepped
    ⟨admissionSound_iff.mp admission, bindings, callsTrusted_iff.mp calls⟩).calls

/-- Settles O14. -/
theorem resetIsSound : Obligations.ResetIsSound :=
  ⟨queuesBounded_law.reset, marksBacked_law.reset, engineSound_law.reset, reset_lineInRange, bindings_law.reset,
    admissionSound_iff.mpr reset_admissionBut, callsTrusted_iff.mpr reset_callsBut, standingsSound_law.reset⟩

end

end Sys2Proof.Machine
end

section
/-! PROOFS. The step and the frame: the front command, the stopped pulse, power-on, the clock, markers, the engine's rounds. -/

namespace Sys2Proof.Machine

open Sys2Proof.Safety

/-! ### The step -/

/-- Settles O1. -/
theorem stepTakesTheFrontCommand : Obligations.StepTakesTheFrontCommand := by
  refine ⟨fun c rest s front => ?_, fun s idle => ?_⟩
  · rw [step, front]
  · rw [step, idle]

theorem whileRunning_stopped {f : State → State} {s : State} (stopped : s.clock.timebase = .stopped) :
    whileRunning f s = .next s := by
  rw [whileRunning, if_pos stopped]

theorem whileRunning_running {f : State → State} {s : State} (running : Running s) :
    whileRunning f s = .next (f s) := by
  rw [whileRunning, if_neg running]

/-- Settles O3. -/
theorem stoppedPulseHoldsTheState : Obligations.StoppedPulseHoldsTheState := by
  refine ⟨fun s running => ?_, fun c s stopped power pin pulse => ?_⟩
  · change Host.Outcome.next (framePulseStop s) = _
    rw [framePulseStop, if_pos running]
  · cases c with
    | powerOn => exact absurd rfl power
    | resetPin => exact absurd rfl pin
    | exchangeFrame p => exact absurd rfl (pulse p)
    | framePulseStop =>
      have idle : s.clock.timebase ≠ .running := by rw [stopped]; decide
      change Host.Outcome.next (framePulseStop s) = _
      rw [framePulseStop, if_neg idle]
    | _ => exact whileRunning_stopped stopped

/-! ### The request assembler in HUNT -/

/-- A byte in HUNT moves the assembler alone (R178). -/
theorem takeByte_hunt {s : State} {p : Option Byte} (hunting : s.port.assembler = .hunt p) (b : Byte) :
    takeByte b s = s.withPort { s.port with
      assembler := if p = some 0xD2 ∧ b = 0x4B then .length none else .hunt (some b) } := by
  unfold takeByte
  rw [hunting]
  dsimp only
  split <;> rfl

/-- The first length byte moves the assembler alone. -/
theorem takeByte_length {s : State} (taking : s.port.assembler = .length none) (b : Byte) :
    takeByte b s = s.withPort { s.port with assembler := .length (some b) } := by
  unfold takeByte
  rw [taking]

/-- Two bytes after a HUNT without a previous byte complete no message. -/
theorem takeDownstream_hunt {s : State} (hunting : s.port.assembler = .hunt none) (w : Word) :
    ∃ a, takeDownstream w s = s.withPort { s.port with assembler := a } := by
  have first : takeByte (w.extractLsb' 8 8) s = s.withPort { s.port with assembler := .hunt (some (w.extractLsb' 8 8)) } :=
    (takeByte_hunt hunting _).trans (by simp)
  have second := takeByte_hunt (s := s.withPort { s.port with assembler := .hunt (some (w.extractLsb' 8 8)) })
    rfl (w.extractLsb' 0 8)
  rw [← first] at second
  refine ⟨if some (w.extractLsb' 8 8) = some 0xD2 ∧ w.extractLsb' 0 8 = 0x4B then .length none
    else .hunt (some (w.extractLsb' 0 8)), second.trans ?_⟩
  rw [first]
  rfl

/-- What a frame pulse advances (R1, R2). -/
def advanced (pulse : ExchangePulse) (s : State) : State :=
  { s with
    clock := s.clock.beginFrame
    highway := s.highway.beginFrame pulse.words
    slots := mapTable (Slot.beginFrame s.timers) s.slots
    contexts := mapTable (Option.map (Context.beginFrame pulse.words)) s.contexts
    engine := s.engine.beginFrame }

theorem beginFrame_eq (pulse : ExchangePulse) (s : State) : beginFrame pulse s =
    takeDownstream pulse.words[0]
      (beginUpstream (s.clock.timebase == .awaiting) pulse.idleWordLast (advanced pulse s)) := rfl

/-- Settles O4. -/
theorem powerOnClearsThePart : Obligations.PowerOnClearsThePart := by
  intro s
  refine ⟨{ State.reset with pending := s.pending }, rfl, rfl, rfl, ?_, ?_⟩
  · exact ⟨rfl, rfl, rfl, rfl, rfl, rfl, rfl, rfl⟩
  have slot (i : SlotId) : State.slot { State.reset with pending := s.pending } i = Slot.initial := slot_reset i
  refine ⟨fun i => ?_, record_reset, fun k => ?_, fun v => ?_, rfl, rfl, rfl, rfl, ?_, fun i => ?_, context_reset, fun d => ?_,
    fun f => ?_, rfl, rfl, rfl, ?_, fun p => ?_⟩
  · rw [slot]
    exact ⟨rfl, rfl, rfl, rfl, rfl, rfl, rfl, rfl, rfl, rfl, rfl⟩
  · simp [State.classRecord, State.reset, ClassRecord.initial]
  · simp [State.reset, VisitorRule.initial]
  · exact ⟨rfl, rfl, rfl, rfl, rfl, rfl, rfl⟩
  · simp [State.reset]
  · simp [State.reset]
  · cases f <;> rfl
  · exact ⟨rfl, rfl, rfl, rfl, rfl, rfl⟩
  · let fresh : State := { State.reset with pending := s.pending }
    obtain ⟨a, taken⟩ := takeDownstream_hunt (s := beginUpstream true p.idleWordLast (advanced p fresh)) rfl p.words[0]
    refine ⟨exchangeFrame p fresh, rfl, ?_⟩
    have frame : exchangeFrame p fresh = takeDownstream p.words[0]
        (beginUpstream true p.idleWordLast (advanced p fresh)) := rfl
    rw [frame, taken]
    exact ⟨rfl, rfl, rfl, rfl⟩

/-! ### The clock -/

/-- Settles O6. -/
theorem clockCountsFrames : Obligations.ClockCountsFrames := by
  rintro ⟨day, hour, minute, second, frame⟩ ⟨dayBound, hourBound, minuteBound, secondBound, frameBound⟩
  dsimp only at dayBound hourBound minuteBound secondBound frameBound
  unfold Reading.advance LegalReading position Reading.endsMinute
  dsimp only
  split
  · dsimp only
    refine ⟨by omega, by omega, ?_⟩
    simp
    omega
  · split
    · dsimp only
      refine ⟨by omega, by omega, ?_⟩
      simp
      omega
    · split
      · dsimp only
        refine ⟨by omega, by omega, ?_⟩
        simp
        omega
      · split
        · dsimp only
          refine ⟨by omega, by omega, ?_⟩
          simp
          omega
        · dsimp only
          refine ⟨⟨?_, by omega⟩, ?_, ?_⟩
          · split <;> omega
          · split <;> omega
          · simp
            omega

/-! ### Markers -/

/-- A nibble before the bits that follow it. -/
theorem extract_append {w : Nat} (x : BitVec w) (start n : Nat) :
    x.extractLsb' (start + 4) n ++ x.extractLsb' start 4 = x.extractLsb' start (n + 4) :=
  BitVec.extractLsb'_append_extractLsb'_eq_extractLsb' rfl

theorem nibblesByte_byteNibbles (b : Byte) : nibblesByte (b.extractLsb' 4 4) (b.extractLsb' 0 4) = b := by
  unfold nibblesByte
  rw [extract_append (start := 0), BitVec.extractLsb'_eq_self]

theorem counter_nibbles (w : Word) :
    w.extractLsb' 12 4 ++ w.extractLsb' 8 4 ++ w.extractLsb' 4 4 ++ w.extractLsb' 0 4 = w := by
  rw [extract_append (start := 8), extract_append (start := 4), extract_append (start := 0), BitVec.extractLsb'_eq_self]

theorem nonce_nibbles (v : BitVec 24) : v.extractLsb' 20 4 ++ v.extractLsb' 16 4 ++ v.extractLsb' 12 4 ++
    v.extractLsb' 8 4 ++ v.extractLsb' 4 4 ++ v.extractLsb' 0 4 = v := by
  rw [extract_append (start := 16), extract_append (start := 12), extract_append (start := 8),
    extract_append (start := 4), extract_append (start := 0), BitVec.extractLsb'_eq_self]

theorem markerKindOf_code (k : MarkerKind) : markerKindOf (BitVec.ofNat 4 k.code) = some k := by cases k <;> rfl

/-- Settles O16. -/
theorem markersReadBack : Obligations.MarkersReadBack := by
  refine fun m legal => ⟨rfl, ?_⟩
  change readMarker (markerFields m ++ [_, _]) = some m
  simp only [markerFields, List.cons_append, List.nil_append, readMarker, markerKindOf_code]
  have check := nibblesByte_byteNibbles (nibbleSum (markerFields m))
  rw [if_pos ⟨trivial, legal, check⟩, counter_nibbles, nonce_nibbles]

/-! ### The engine's rounds -/

/-- The first `n` rounds of the transform (R83). -/
def rounds (key : Key) (n : Nat) (ab : Word × Word) : Word × Word :=
  (List.range n).foldl (fun ab r => roundStep (key.word r) ab) ab

theorem rounds_succ (key : Key) (n : Nat) (ab : Word × Word) :
    rounds key (n + 1) ab = roundStep (key.word n) (rounds key n ab) := by
  simp [rounds, List.range_succ]

theorem transform_eq (key : Key) (input : BitVec 32) : transform key input =
    (rounds key 8 (input.extractLsb' 16 16, input.extractLsb' 0 16)).1 ++
      (rounds key 8 (input.extractLsb' 16 16, input.extractLsb' 0 16)).2 := rfl

/-- An operation after `n` rounds of a run. -/
def Operation.after (op : Operation) (n : Nat) : Operation :=
  { op with a := (rounds op.key n (op.a, op.b)).1, b := (rounds op.key n (op.a, op.b)).2, round := n }

theorem runRound_after (op : Operation) {n : Nat} (early : n < 7) : (op.after n).runRound = op.after (n + 1) := by
  have step : (op.after n).runRound = { op.after n with
      a := (roundStep (op.key.word n) (rounds op.key n (op.a, op.b))).1
      b := (roundStep (op.key.word n) (rounds op.key n (op.a, op.b))).2, round := n + 1 } := if_pos early
  rw [step, ← rounds_succ]
  rfl

theorem iterate_runRound {op : Operation} (fresh : op.round = 0) {n : Nat} (few : n ≤ 7) :
    Operation.runRound^[n] op = op.after n := by
  induction n with
  | zero =>
    obtain ⟨job, key, word2, first, a, b, round, complete⟩ := op
    obtain rfl : round = 0 := fresh
    rfl
  | succ n ih =>
    rw [Function.iterate_succ_apply', ih (Nat.le_of_succ_le few), runRound_after op few]

theorem runRound_last (op : Operation) : (op.after 7).runRound = match op.word2, op.first with
    | some w, none => { op.after 7 with
        first := some ((rounds op.key 8 (op.a, op.b)).1 ++ (rounds op.key 8 (op.a, op.b)).2)
        a := w.extractLsb' 16 16, b := w.extractLsb' 0 16, round := 0 }
    | _, _ => { op.after 7 with
        a := (rounds op.key 8 (op.a, op.b)).1, b := (rounds op.key 8 (op.a, op.b)).2, complete := true } := rfl

theorem halves (a b : Word) : (a ++ b : BitVec 32).extractLsb' 16 16 = a ∧ (a ++ b : BitVec 32).extractLsb' 0 16 = b :=
  ⟨BitVec.extractLsb'_append_eq_left, BitVec.extractLsb'_append_eq_right⟩

/-- Settles O19. -/
theorem engineRunsTheTransform : Obligations.EngineRunsTheTransform := by
  intro op fresh alone running
  have early (n : Nat) (few : n ≤ 7) : (Operation.runRound^[n] op).complete = false := by
    rw [iterate_runRound fresh few]
    exact running
  have input : transform op.key (op.a ++ op.b) =
      (rounds op.key 8 (op.a, op.b)).1 ++ (rounds op.key 8 (op.a, op.b)).2 := by
    rw [transform_eq, (halves op.a op.b).1, (halves op.a op.b).2]
  have eighth : Operation.runRound^[8] op = (op.after 7).runRound := by
    rw [Function.iterate_succ_apply', iterate_runRound fresh (Nat.le_refl 7)]
  refine ⟨fun verify => ⟨fun n few => early n (Nat.le_of_lt_succ few), ?_, ?_⟩, fun w derive => ?_⟩
  · rw [eighth, runRound_last, verify]
  · rw [eighth, runRound_last, verify, input]
    rfl
  · have first : Operation.runRound^[8] op = { op.after 7 with
        first := some (transform op.key (op.a ++ op.b)), a := w.extractLsb' 16 16, b := w.extractLsb' 0 16, round := 0 } := by
      rw [eighth, runRound_last, derive, alone, input]
    have second (n : Nat) : Operation.runRound^[n + 8] op = Operation.runRound^[n] { op.after 7 with
        first := some (transform op.key (op.a ++ op.b)), a := w.extractLsb' 16 16, b := w.extractLsb' 0 16, round := 0 } := by
      rw [Function.iterate_add_apply, first]
    have last : Operation.runRound^[16] op = (Operation.after { op.after 7 with
        first := some (transform op.key (op.a ++ op.b)), a := w.extractLsb' 16 16, b := w.extractLsb' 0 16, round := 0 }
        7).runRound := by
      rw [second 8, Function.iterate_succ_apply', iterate_runRound rfl (Nat.le_refl 7)]
    refine ⟨fun n few => ?_, ?_, ?_⟩
    · by_cases low : n < 8
      · exact early n (Nat.le_of_lt_succ low)
      · obtain ⟨m, rfl⟩ := Nat.exists_eq_add_of_le' (Nat.le_of_not_lt low)
        rw [second m, iterate_runRound rfl (by omega)]
        exact running
    · rw [last, runRound_last]
      simp [Operation.after, derive]
    · rw [last, runRound_last]
      simp [Operation.after, derive, Operation.keyWords, Operation.output, transform_eq]

end Sys2Proof.Machine
end

section
/-! PROOFS. Requests that read a queue, load a table or set a level: the fields of their bodies, and each request's
branches. -/

namespace Sys2Proof.Machine

open Sys2Proof.Safety

/-! ### Fields of a body -/

@[simp] theorem byteAt_cons_zero (b : Byte) (rest : List Byte) : byteAt (b :: rest) 0 = b.toNat := rfl

@[simp] theorem byteAt_cons_succ (b : Byte) (rest : List Byte) (k : Nat) :
    byteAt (b :: rest) (k + 1) = byteAt rest k := rfl

theorem slotOf_of_eq_number {n : Nat} {i : SlotId} (named : n = i.number) : slotOf n = some i := by
  subst named
  have inside : 1 ≤ i.number ∧ i.number ≤ 127 := ⟨Nat.succ_pos _, i.isLt⟩
  rw [slotOf, dif_pos inside]
  rfl

theorem slotOf_eq_none {n : Nat} (outside : n = 0 ∨ 127 < n) : slotOf n = none := dif_neg (by omega)

theorem byte_number_toNat (i : SlotId) : (byte i.number).toNat = i.number :=
  byte_toNat (Nat.lt_of_le_of_lt i.isLt (by decide))

theorem byte_fin_toNat {size : Nat} (i : Fin size) (small : size ≤ 256) : (byte i.val).toNat = i.val :=
  byte_toNat (Nat.lt_of_lt_of_le i.isLt small)

/-- The slot that the first byte of a body names. -/
theorem slotOf_number_cons (i : SlotId) (rest : List Byte) : slotOf (byteAt (byte i.number :: rest) 0) = some i :=
  slotOf_of_eq_number (byte_number_toNat i)

/-! ### READ-EVENTS and READ-RECORDS -/

theorem exec_readEvents : ∀ (body : List Byte) (s : State),
    exec (.readEvents body) s = whileRunning (request 0x61 1 readEvents body) s := by
  intros; rfl

theorem exec_readRecords : ∀ (body : List Byte) (s : State),
    exec (.readRecords body) s = whileRunning (request 0x62 1 readRecords body) s := by
  intros; rfl

theorem byte_flagNat (f : Bool) : byte (flagNat f) = if f then 1 else 0 := by
  cases f <;> rfl

section
variable {body : List Byte} {s : State} {n : Nat}

theorem readEvents_legal (count : byteAt body 0 = n) (low : 1 ≤ n) (high : n ≤ 8) : readEvents body s =
    answerWith ([byte (min n s.events.queue.length), if s.events.overflow then 1 else 0] ++
        (s.events.queue.take n).flatMap eventBytes)
      { s with events := { s.events with queue := s.events.queue.drop n, overflow := false } } := by
  subst count
  rw [readEvents, if_neg (by omega), ← byte_flagNat, ← List.length_take]

theorem readEvents_illegal (illegal : byteAt body 0 = 0 ∨ 8 < byteAt body 0) :
    readEvents body s = refusedWith .badArgument s := if_pos illegal

theorem readRecords_legal (count : byteAt body 0 = n) (low : 1 ≤ n) (high : n ≤ 4) : readRecords body s =
    answerWith ([byte (min n s.records.queue.length)] ++ bytes16 s.records.discarded ++
        (s.records.queue.take n).flatMap callRecordBytes)
      { s with records := { queue := s.records.queue.drop n, discarded := 0 } } := by
  subst count
  rw [readRecords, if_neg (by omega), ← List.length_take]

theorem readRecords_illegal (illegal : byteAt body 0 = 0 ∨ 4 < byteAt body 0) :
    readRecords body s = refusedWith .badArgument s := if_pos illegal

end

/-- A request answered OK with a body leaves what its action leaves, and its answer. -/
theorem whileRunning_request_answer {code : Byte} {size : Nat} {act : List Byte → State → Answer}
    {body reply : List Byte} {s t : State} (accepts : Accepts s) (length : body.length = size)
    (done : act body (huntPort s) = answerWith reply (huntPort t)) :
    whileRunning (request code size act body) s = .next (answered code .ok reply t) :=
  whileRunning_request_of_accepts accepts length done

/-- Settles O60: each request by its legal and illegal counts. -/
theorem queuesAreReadOldestFirst : Obligations.QueuesAreReadOldestFirst := by
  intro body s accepts
  simp only [exec_readEvents, exec_readRecords]
  have count {n : Nat} (spelt : body = [byte n]) (small : n ≤ 255) : byteAt body 0 = n := by
    subst spelt
    exact byte_toNat (Nat.lt_succ_of_le small)
  refine ⟨fun n spelt low high => ?_, fun n spelt low high => ?_, fun n spelt small illegal => ?_,
    fun n spelt small illegal => ?_, fun _ => rfl, fun _ => rfl⟩
  · exact whileRunning_request_answer accepts (by rw [spelt]; rfl)
      (readEvents_legal (count spelt (high.trans (by decide))) low high)
  · exact whileRunning_request_answer accepts (by rw [spelt]; rfl)
      (readRecords_legal (count spelt (high.trans (by decide))) low high)
  · exact whileRunning_request_refused accepts (by rw [spelt]; rfl)
      (readEvents_illegal (by rw [count spelt small]; exact illegal))
  · exact whileRunning_request_refused accepts (by rw [spelt]; rfl)
      (readRecords_illegal (by rw [count spelt small]; exact illegal))

/-! ### SET-ENGINE-LEVELS, LOAD-SITE and CLEAR-SITE -/

theorem exec_setEngineLevels : ∀ (body : List Byte) (s : State),
    exec (.setEngineLevels body) s = whileRunning (request 0x30 3 setEngineLevels body) s := by
  intros; rfl

theorem exec_loadSite : ∀ (body : List Byte) (s : State),
    exec (.loadSite body) s = whileRunning (request 0x40 11 loadSite body) s := by
  intros; rfl

theorem exec_clearSite : ∀ (body : List Byte) (s : State),
    exec (.clearSite body) s = whileRunning (request 0x41 1 clearSite body) s := by
  intros; rfl

theorem siteReferenced_iff (i : SiteId) (s : State) :
    siteReferenced i s = true ↔ ∃ c x, s.context c = some x ∧ x.site = i := by
  simp [siteReferenced, contextIds, Option.any_eq_true]

theorem siteReferenced_eq_false {i : SiteId} {s : State} (unnamed : ∀ c x, s.context c = some x → x.site ≠ i) :
    siteReferenced i s = false := by
  rw [← Bool.not_eq_true, siteReferenced_iff]
  rintro ⟨c, x, held, named⟩
  exact unnamed c x held named

theorem identifierElsewhere_iff (i : SiteId) (identifier : Word) (s : State) : identifierElsewhere i identifier s = true ↔
    ∃ (j : SiteId) (y : Site), j ≠ i ∧ s.sites[j] = some y ∧ y.identifier = identifier := by
  simp [identifierElsewhere, Option.any_eq_true]

section
variable {body : List Byte} {s : State} {i : SiteId}

theorem setEngineLevels_legal (rx : byteAt body 0 ≤ 3) (tx : byteAt body 1 ≤ 3) (verify : byteAt body 2 ≤ 3) :
    setEngineLevels body s = ok (s.withEngine { s.engine with
      rxLevel := byteAt body 0, txLevel := byteAt body 1, verifyLevel := byteAt body 2 }) :=
  if_neg (by omega)

theorem setEngineLevels_illegal (illegal : 3 < byteAt body 0 ∨ 3 < byteAt body 1 ∨ 3 < byteAt body 2) :
    setEngineLevels body s = refusedWith .badArgument s := if_pos illegal

theorem loadSite_named (site : byteAt body 0 = i.val) (named : ∃ c x, s.context c = some x ∧ x.site = i) :
    loadSite body s = refusedWith .inUse s := by
  rw [loadSite, indexOf_of_eq_val site]
  exact if_pos ((siteReferenced_iff i s).mpr named)

theorem loadSite_duplicate (site : byteAt body 0 = i.val) (unnamed : ∀ c x, s.context c = some x → x.site ≠ i)
    (elsewhere : ∃ (j : SiteId) (y : Site), j ≠ i ∧ s.sites[j] = some y ∧
      y.identifier = BitVec.ofNat 16 (field16 body 1)) : loadSite body s = refusedWith .duplicate s := by
  rw [loadSite, indexOf_of_eq_val site]
  dsimp only
  rw [siteReferenced_eq_false unnamed, if_neg Bool.false_ne_true,
    if_pos ((identifierElsewhere_iff _ _ s).mpr elsewhere)]

theorem loadSite_writes (site : byteAt body 0 = i.val) (unnamed : ∀ c x, s.context c = some x → x.site ≠ i)
    (nowhere : ∀ (j : SiteId) (y : Site), j ≠ i → s.sites[j] = some y →
      y.identifier ≠ BitVec.ofNat 16 (field16 body 1)) :
    loadSite body s = ok { s with sites := s.sites.set i (some
      { identifier := BitVec.ofNat 16 (field16 body 1), key := fieldKey body 3 }) } := by
  have unique : ¬identifierElsewhere i (BitVec.ofNat 16 (field16 body 1)) s = true := by
    rw [identifierElsewhere_iff]
    rintro ⟨j, y, other, held, same⟩
    exact nowhere j y other held same
  rw [loadSite, indexOf_of_eq_val site]
  dsimp only
  rw [siteReferenced_eq_false unnamed, if_neg Bool.false_ne_true, if_neg unique]

theorem loadSite_illegal (high : 31 < byteAt body 0) : loadSite body s = refusedWith .badArgument s := by
  rw [loadSite, indexOf_eq_none_of_le (size := 32) high]

theorem clearSite_named (site : byteAt body 0 = i.val) (named : ∃ c x, s.context c = some x ∧ x.site = i) :
    clearSite body s = refusedWith .inUse s := by
  rw [clearSite, indexOf_of_eq_val site]
  exact if_pos ((siteReferenced_iff i s).mpr named)

theorem clearSite_writes (site : byteAt body 0 = i.val) (unnamed : ∀ c x, s.context c = some x → x.site ≠ i) :
    clearSite body s = ok { s with sites := s.sites.set i none } := by
  rw [clearSite, indexOf_of_eq_val site]
  dsimp only
  rw [siteReferenced_eq_false unnamed, if_neg Bool.false_ne_true]

theorem clearSite_illegal (high : 31 < byteAt body 0) : clearSite body s = refusedWith .badArgument s := by
  rw [clearSite, indexOf_eq_none_of_le (size := 32) high]

end

/-- Settles O56: R94, R100 and R101, each request branch by branch. -/
theorem levelsAndSitesAreLoaded : Obligations.LevelsAndSitesAreLoaded := by
  intro body s accepts
  simp only [exec_setEngineLevels, exec_loadSite, exec_clearSite]
  refine ⟨fun length rx tx verify => whileRunning_request_ok accepts length (setEngineLevels_legal rx tx verify),
    fun length illegal => whileRunning_request_refused accepts length (setEngineLevels_illegal illegal),
    fun i length site => ⟨fun named => ?_, fun unnamed => ⟨fun elsewhere => ?_, fun nowhere => ?_⟩⟩,
    fun i length site => ⟨fun named => ?_, fun unnamed => ?_⟩,
    fun length high => whileRunning_request_refused accepts length (loadSite_illegal high),
    fun length high => whileRunning_request_refused accepts length (clearSite_illegal high)⟩
  · exact whileRunning_request_refused accepts length (loadSite_named (s := huntPort s) site named)
  · exact whileRunning_request_refused accepts length (loadSite_duplicate (s := huntPort s) site unnamed elsewhere)
  · exact whileRunning_request_ok accepts length (loadSite_writes (s := huntPort s) site unnamed nowhere)
  · exact whileRunning_request_refused accepts length (clearSite_named (s := huntPort s) site named)
  · exact whileRunning_request_ok accepts length (clearSite_writes (s := huntPort s) site unnamed)

/-! ### The tone requests -/

theorem exec_loadTone : ∀ (body : List Byte) (s : State),
    exec (.loadTone body) s = whileRunning (request 0x50 12 loadTone body) s := by
  intros; rfl

theorem exec_setToneFunctions : ∀ (body : List Byte) (s : State),
    exec (.setToneFunctions body) s = whileRunning (request 0x51 6 setToneFunctions body) s := by
  intros; rfl

theorem exec_playTone : ∀ (body : List Byte) (s : State),
    exec (.playTone body) s = whileRunning (request 0x52 2 playTone body) s := by
  intros; rfl

theorem exec_stopTone : ∀ (body : List Byte) (s : State),
    exec (.stopTone body) s = whileRunning (request 0x53 2 stopTone body) s := by
  intros; rfl

section
variable {body : List Byte} {s : State} {d : ToneId}

theorem loadTone_empty (index : byteAt body 0 = d.val) (flag : byteAt body 1 = 0) :
    loadTone body s = ok (withTone d none s) := by
  rw [loadTone, indexOf_of_eq_val index, flag]
  rfl

theorem loadTone_legal (index : byteAt body 0 = d.val) (flag : byteAt body 1 = 1) (priority : byteAt body 11 ≤ 3) :
    loadTone body s = ok (withTone d (some (loadedTone body)) s) := by
  rw [loadTone, indexOf_of_eq_val index, flag]
  exact if_neg priority.not_gt

theorem loadTone_illegal
    (illegal : 7 < byteAt body 0 ∨ 1 < byteAt body 1 ∨ (byteAt body 1 = 1 ∧ 3 < byteAt body 11)) :
    loadTone body s = refusedWith .badArgument s := by
  unfold loadTone
  split
  case h_1 => rfl
  case h_2 e index =>
    have low : ¬7 < byteAt body 0 := fun high => by simp [indexOf_eq_none_of_le (size := 8) high] at index
    by_cases flag : 1 < byteAt body 1
    · exact if_pos flag
    · rw [if_neg flag, if_neg (by omega), if_pos (by omega)]

theorem legalToneByte_iff (v : Nat) : legalToneByte v = true ↔ v ≤ 7 ∨ v = 0xFF := by simp [legalToneByte]

theorem setToneFunctions_legal (legal : ∀ k, k < 6 → byteAt body k ≤ 7 ∨ byteAt body k = 0xFF) :
    setToneFunctions body s = ok { s with tones := { s.tones with functions := toneFunctionsOf body } } := by
  refine if_pos (List.all_eq_true.mpr fun k inside => ?_)
  exact (legalToneByte_iff _).mpr (legal k (List.mem_range.mp inside))

theorem setToneFunctions_illegal (illegal : ∃ k, k < 6 ∧ 7 < byteAt body k ∧ byteAt body k ≠ 0xFF) :
    setToneFunctions body s = refusedWith .badArgument s := by
  obtain ⟨k, small, high, named⟩ := illegal
  refine if_neg fun all => ?_
  have legal := (legalToneByte_iff _).mp (List.all_eq_true.mp all k (List.mem_range.mpr small))
  omega

theorem playTone_illegal (illegal : byteAt body 0 = 0 ∨ 127 < byteAt body 0 ∨ 7 < byteAt body 1) :
    playTone body s = refusedWith .badArgument s := by
  unfold playTone
  split
  case h_1 i e slot index =>
    have low : ¬7 < byteAt body 1 := fun high => by simp [indexOf_eq_none_of_le (size := 8) high] at index
    have named : ¬(byteAt body 0 = 0 ∨ 127 < byteAt body 0) := fun outside => by simp [slotOf_eq_none outside] at slot
    exact absurd illegal (by tauto)
  case h_2 => rfl

theorem stopTone_illegal (illegal : byteAt body 0 = 0 ∨ 127 < byteAt body 0 ∨ 1 < byteAt body 1) :
    stopTone body s = refusedWith .badArgument s := by
  unfold stopTone
  split
  case h_1 => rfl
  case h_2 i slot =>
    have named : ¬(byteAt body 0 = 0 ∨ 127 < byteAt body 0) := fun outside => by simp [slotOf_eq_none outside] at slot
    exact if_pos (by tauto)

end

section
variable {s : State} {i : SlotId} {d : ToneId} {x : ToneDescriptor}

/-- The checks of PLAY-TONE on a body that names a slot and a descriptor (R161). -/
theorem playTone_named (i : SlotId) (d : ToneId) (s : State) : playTone [byte i.number, byte d.val] s =
    if (s.slot i).kind ≠ .extension then refusedWith .wrongState s
    else match s.tones.descriptors[d] with
      | none => refusedWith .notFound s
      | some x => answerWith [((s.slot i).requestTone d x).1.code] (s.withSlot i ((s.slot i).requestTone d x).2) := by
  have index : byteAt [byte i.number, byte d.val] 1 = d.val := byte_fin_toNat d (by decide)
  rw [playTone, slotOf_number_cons, indexOf_of_eq_val index] <;> rfl

theorem playTone_wrongState (kind : (s.slot i).kind ≠ .extension) :
    playTone [byte i.number, byte d.val] s = refusedWith .wrongState s := by
  rw [playTone_named, if_pos kind]

theorem playTone_notFound (kind : (s.slot i).kind = .extension) (empty : s.tones.descriptors[d] = none) :
    playTone [byte i.number, byte d.val] s = refusedWith .notFound s := by
  rw [playTone_named, if_neg (not_not_intro kind), empty]

theorem playTone_asks {r : Slot} {outcome : ToneOutcome} (kind : (s.slot i).kind = .extension)
    (loaded : s.tones.descriptors[d] = some x) (asked : (s.slot i).requestTone d x = (outcome, r)) :
    playTone [byte i.number, byte d.val] s = answerWith [outcome.code] (s.withSlot i r) := by
  rw [playTone_named, if_neg (not_not_intro kind), loaded]
  simp only [asked]

/-! R159: a tone request by the tones of its player. -/

theorem requestTone_idle {r : Slot} (idle : r.tone = none) :
    r.requestTone d x = (.started, { r with tone := some (startTone d x) }) := by
  rw [Slot.requestTone, idle]

theorem requestTone_higher {r : Slot} {t : Tone} (playing : r.tone = some t)
    (higher : t.descriptor.priority < x.priority) :
    r.requestTone d x = (.started, { r with tone := some (startTone d x) }) := by
  rw [Slot.requestTone, playing]
  exact if_pos higher

theorem requestTone_waits {r : Slot} {t : Tone} (playing : r.tone = some t)
    (lower : x.priority ≤ t.descriptor.priority) (free : r.pendingTone = none) :
    r.requestTone d x = (.waiting, { r with pendingTone := some { index := d, priority := x.priority } }) := by
  rw [Slot.requestTone, playing]
  dsimp only
  rw [if_neg lower.not_gt, free]

theorem requestTone_replaces {r : Slot} {t : Tone} {p : PendingTone} (playing : r.tone = some t)
    (lower : x.priority ≤ t.descriptor.priority) (waits : r.pendingTone = some p) (higher : p.priority < x.priority) :
    r.requestTone d x = (.replaced, { r with pendingTone := some { index := d, priority := x.priority } }) := by
  rw [Slot.requestTone, playing]
  dsimp only
  rw [if_neg lower.not_gt, waits]
  exact if_pos higher

theorem requestTone_dropped {r : Slot} {t : Tone} {p : PendingTone} (playing : r.tone = some t)
    (lower : x.priority ≤ t.descriptor.priority) (waits : r.pendingTone = some p) (kept : x.priority ≤ p.priority) :
    r.requestTone d x = (.dropped, r) := by
  rw [Slot.requestTone, playing]
  dsimp only
  rw [if_neg lower.not_gt, waits]
  exact if_neg kept.not_gt

/-- The checks of STOP-TONE on a body that names a slot and a legal scope (R162). -/
theorem stopTone_named {scope : Nat} (i : SlotId) (legal : scope ≤ 1) (s : State) :
    stopTone [byte i.number, byte scope] s =
      if (s.slot i).kind ≠ .extension then refusedWith .wrongState s
      else if scope = 0 then ok (onSlot i (fun r => if r.tone.isSome then r.endTone s.tones else r) s)
      else ok (onSlot i Slot.dropTones s) := by
  have spelt : byteAt [byte i.number, byte scope] 1 = scope := byte_toNat (by omega)
  rw [stopTone, slotOf_number_cons]
  dsimp only
  rw [spelt, if_neg legal.not_gt]

theorem stopTone_wrongState {scope : Nat} (legal : scope ≤ 1) (kind : (s.slot i).kind ≠ .extension) :
    stopTone [byte i.number, byte scope] s = refusedWith .wrongState s := by
  rw [stopTone_named i legal, if_pos kind]

theorem stopTone_both (kind : (s.slot i).kind = .extension) : stopTone [byte i.number, 1] s =
    ok (s.withSlot i { s.slot i with tone := none, pendingTone := none }) := by
  have named := stopTone_named (scope := 1) i le_rfl s
  rw [if_neg (not_not_intro kind), if_neg Nat.one_ne_zero] at named
  exact named

theorem stopTone_current (kind : (s.slot i).kind = .extension) : stopTone [byte i.number, 0] s =
    ok (s.withSlot i (if (s.slot i).tone.isSome then (s.slot i).endTone s.tones else s.slot i)) := by
  have named := stopTone_named (scope := 0) i (Nat.zero_le 1) s
  rw [if_neg (not_not_intro kind), if_pos rfl] at named
  exact named

/-! R160: the end of a current tone by the pending one. -/

theorem endTone_none {tones : Tones} {r : Slot} (none : r.pendingTone = none) :
    r.endTone tones = { r with tone := .none } := by
  rw [Slot.endTone, none]

theorem endTone_some {tones : Tones} {r : Slot} {p : PendingTone} (waits : r.pendingTone = some p) :
    r.endTone tones =
      { r with tone := tones.descriptors[p.index].map (startTone p.index), pendingTone := none } := by
  rw [Slot.endTone, waits]

end

/-- Settles O58: LOAD-TONE and SET-TONE-FUNCTIONS by their fields, PLAY-TONE by R159 and STOP-TONE by R160. -/
theorem toneRequestsAct : Obligations.ToneRequestsAct := by
  intro body s accepts
  simp only [exec_loadTone, exec_setToneFunctions, exec_playTone, exec_stopTone]
  refine ⟨fun d length index => ⟨fun flag => ?_, fun flag priority => ?_⟩,
    fun length illegal => whileRunning_request_refused accepts length (loadTone_illegal illegal),
    fun length illegal => whileRunning_request_refused accepts length (setToneFunctions_illegal illegal),
    fun length => ⟨fun illegal => whileRunning_request_refused accepts length (playTone_illegal illegal),
      fun illegal => whileRunning_request_refused accepts length (stopTone_illegal illegal)⟩,
    fun i d => ⟨fun kind => ?_, fun kind empty => ?_, fun scope legal kind => ?_⟩,
    fun length legal => ⟨toneFunctionsOf body, ?_, rfl, rfl, rfl, rfl, rfl, rfl⟩, fun i d x spelt kind loaded => ?_,
    fun i kind => ?_⟩
  · exact whileRunning_request_ok accepts length (loadTone_empty index flag)
  · exact whileRunning_request_ok accepts length (loadTone_legal index flag priority)
  · exact whileRunning_request_refused accepts rfl (playTone_wrongState (s := huntPort s) kind)
  · exact whileRunning_request_refused accepts rfl (playTone_notFound (s := huntPort s) kind empty)
  · exact whileRunning_request_refused accepts rfl (stopTone_wrongState (s := huntPort s) legal kind)
  · exact whileRunning_request_ok accepts length (setToneFunctions_legal legal)
  · subst spelt
    have asks {outcome : ToneOutcome} {r : Slot} (asked : (s.slot i).requestTone d x = (outcome, r)) :
        whileRunning (request 0x52 2 playTone [byte i.number, byte d.val]) s =
          .next (answered 0x52 .ok [outcome.code] (s.withSlot i r)) :=
      whileRunning_request_answer accepts rfl (playTone_asks (s := huntPort s) kind loaded asked)
    refine ⟨fun idle => asks (requestTone_idle idle), fun t playing higher => asks (requestTone_higher playing higher),
      fun t playing lower => ⟨fun free => asks (requestTone_waits playing lower free),
        fun p waits higher => asks (requestTone_replaces playing lower waits higher), fun p waits kept => ?_⟩⟩
    have dropped := asks (requestTone_dropped playing lower waits kept)
    rwa [withSlot_slot] at dropped
  · have stops {r : Slot} (stopped : (if (s.slot i).tone.isSome then (s.slot i).endTone s.tones else s.slot i) = r) :
        whileRunning (request 0x53 2 stopTone [byte i.number, 0]) s = .next (answered 0x53 .ok [] (s.withSlot i r)) := by
      subst stopped
      exact whileRunning_request_ok accepts rfl (stopTone_current (s := huntPort s) kind)
    refine ⟨whileRunning_request_ok accepts rfl (stopTone_both (s := huntPort s) kind), fun free => ?_,
      fun p x playing waits loaded => ?_, fun p playing waits empty => ?_, fun idle => ?_⟩
    · refine stops ?_
      cases idle : (s.slot i).tone with
      | none => rw [Option.isSome_none, if_neg Bool.false_ne_true, ← idle]
      | some t => rw [Option.isSome_some, if_pos rfl, endTone_none free]
    · refine stops ?_
      rw [if_pos playing, endTone_some waits, loaded]
      rfl
    · refine stops ?_
      rw [if_pos playing, endTone_some waits, empty]
      rfl
    · have same := stops (r := s.slot i) (by rw [idle, Option.isSome_none, if_neg Bool.false_ne_true])
      rwa [withSlot_slot] at same

end Sys2Proof.Machine
end

section
/-! SUPPORT. What the shared operations spare: the blocks that no sign-off, free or refusal touches, and the Maintenance
Port, which none of them reads either. -/

namespace Sys2Proof.Machine

open Sys2Proof.Safety

/-! ### The cases of a post and of a message -/

theorem post_full {kind : EventKind} {slot : Option SlotId} {context : Option ContextId} {index : Option RecordId}
    {detail : Byte} {s : State} (enabled : s.events.mask.getLsbD (kind.code - 1) = true)
    (full : Config.eventQueueSize ≤ s.events.queue.length) :
    post kind slot context index detail s = { s with events := { s.events with overflow := true } } := by
  obtain ⟨disabled, -⟩ | ⟨-, room, -⟩ | ⟨-, -, marked⟩ := post_cases kind slot context index detail s
  · exact absurd enabled (Bool.eq_false_iff.mp disabled)
  · exact absurd room full.not_gt
  · exact marked

section
variable {i : SlotId} {m : HandsetMessage} {s : State}

theorem enqueue_deaf (deaf : (s.slot i).kind ≠ .extension) : enqueue i m s = s := if_pos deaf

theorem enqueue_room (kind : (s.slot i).kind = .extension) (room : (s.slot i).txQueue.length < Config.txQueueSize) :
    enqueue i m s = onSlot i (fun r => { r with txQueue := r.txQueue ++ [m] }) s :=
  (if_neg (not_not_intro kind)).trans (if_pos room)

theorem enqueue_full (kind : (s.slot i).kind = .extension) (full : Config.txQueueSize ≤ (s.slot i).txQueue.length) :
    enqueue i m s = post .txOverflow (some i) none none m.type s :=
  (if_neg (not_not_intro kind)).trans (if_neg full.not_gt)

end

/-! ### The blocks spared -/

/-- From `s` to `t` the tables, the line side, the clock and the port stand, no nonce is drawn, and events are only added. -/
structure Spares (s t : State) : Prop where
  highway : t.highway = s.highway
  classes : t.classes = s.classes
  timers : t.timers = s.timers
  sites : t.sites = s.sites
  tones : t.tones = s.tones
  clock : t.clock = s.clock
  port : t.port = s.port
  pending : t.pending = s.pending
  nonce : t.engine.nonce = s.engine.nonce
  mask : t.events.mask = s.events.mask
  posted : ∃ posted, t.events.queue = s.events.queue ++ posted

namespace Spares

theorem refl (s : State) : Spares s s :=
  ⟨rfl, rfl, rfl, rfl, rfl, rfl, rfl, rfl, rfl, rfl, [], (List.append_nil _).symm⟩

theorem trans {s t u : State} (first : Spares s t) (second : Spares t u) : Spares s u := by
  refine ⟨second.highway.trans first.highway, second.classes.trans first.classes, second.timers.trans first.timers,
    second.sites.trans first.sites, second.tones.trans first.tones, second.clock.trans first.clock,
    second.port.trans first.port, second.pending.trans first.pending, second.nonce.trans first.nonce,
    second.mask.trans first.mask, ?_⟩
  obtain ⟨some, added⟩ := first.posted
  obtain ⟨more, further⟩ := second.posted
  exact ⟨some ++ more, by rw [further, added, List.append_assoc]⟩

/-- What the spared blocks leave to differ. -/
theorem eq {s t : State} (spares : Spares s t) : t = { s with
    slots := t.slots, directory := t.directory, visitors := t.visitors, engine := t.engine
    contexts := t.contexts, events := t.events, records := t.records } :=
  State.same spares.highway rfl rfl spares.classes rfl spares.timers rfl spares.sites rfl spares.tones spares.clock rfl
    rfl spares.port spares.pending

/-- A change of the slots, the directory, the visitors, the contexts and the call records alone. -/
theorem of_tables {s t : State} (same : t = { s with
    slots := t.slots, directory := t.directory, visitors := t.visitors, contexts := t.contexts
    records := t.records }) : Spares s t := by
  rw [same]
  exact ⟨rfl, rfl, rfl, rfl, rfl, rfl, rfl, rfl, rfl, rfl, [], (List.append_nil _).symm⟩

theorem forEach {α : Type} {f : α → State → State} (each : ∀ x s, Spares s (f x s)) (xs : List α) (s : State) :
    Spares s (forEach xs f s) :=
  forEach_keeps (P := Spares s) (fun x t sofar => sofar.trans (each x t)) xs s (refl s)

end Spares

section
variable (s : State)

theorem onSlot_spares (i : SlotId) (f : Slot → Slot) : Spares s (onSlot i f s) := .of_tables rfl

theorem onRecord_spares (r : RecordId) (f : Record → Record) : Spares s (onRecord r f s) := .of_tables rfl

theorem withRecord_spares (r : RecordId) (x : Option Record) : Spares s (s.withRecord r x) := .of_tables rfl

theorem withContext_spares (c : ContextId) (x : Option Context) : Spares s (s.withContext c x) := .of_tables rfl

theorem withEngine_spares {e : Engine} (nonce : e.nonce = s.engine.nonce) : Spares s (s.withEngine e) :=
  ⟨rfl, rfl, rfl, rfl, rfl, rfl, rfl, rfl, nonce, rfl, [], (List.append_nil _).symm⟩

theorem withdraw_spares (p : Job → Bool) : Spares s (withdraw p s) := withEngine_spares s rfl

theorem post_queue_append (kind : EventKind) (slot : Option SlotId) (context : Option ContextId) (index : Option RecordId)
    (detail : Byte) :
    ∃ posted, (post kind slot context index detail s).events.queue = s.events.queue ++ posted := by
  obtain ⟨-, same⟩ | ⟨-, -, joined⟩ | ⟨-, -, marked⟩ := post_cases kind slot context index detail s
  · exact ⟨[], by rw [same, List.append_nil]⟩
  · exact ⟨_, congrArg (·.events.queue) joined⟩
  · exact ⟨[], by rw [marked, List.append_nil]⟩

theorem post_spares (kind : EventKind) (slot : Option SlotId) (context : Option ContextId) (index : Option RecordId)
    (detail : Byte) : Spares s (post kind slot context index detail s) where
  highway := post_highway ..
  classes := post_classes ..
  timers := post_timers ..
  sites := post_sites ..
  tones := post_tones ..
  clock := post_clock ..
  port := post_port ..
  pending := post_pending ..
  nonce := by rw [post_engine]
  mask := post_mask ..
  posted := post_queue_append ..

theorem enqueue_spares (i : SlotId) (m : HandsetMessage) : Spares s (enqueue i m s) := by
  obtain ⟨-, same⟩ | ⟨-, -, joined⟩ | ⟨-, -, lost⟩ := enqueue_cases i m s
  · rw [same]
    exact .refl s
  · exact joined ▸ onSlot_spares s i _
  · exact lost ▸ post_spares s ..

theorem requestFunction_spares (f : ToneFunction) (i : SlotId) : Spares s (requestFunction f i s) := by
  obtain same | ⟨d, x, -, -, -, asked⟩ := requestFunction_cases f i s
  · rw [same]
    exact .refl s
  · exact asked ▸ .of_tables rfl

theorem enqueueAdmitted_spares (i : SlotId) : Spares s (enqueueAdmitted i s) := by
  unfold enqueueAdmitted
  split
  · exact enqueue_spares s i _
  · exact .refl s

theorem storeRecord_spares (r : CallRecord) : Spares s (storeRecord r s) := by
  obtain ⟨-, joined⟩ | ⟨-, counted⟩ := storeRecord_cases r s
  · exact joined ▸ .of_tables rfl
  · exact counted ▸ .of_tables rfl

/-! ### Contexts -/

theorem recordFree_spares (c : ContextId) (x : Context) : Spares s (recordFree c x s) :=
  ((onSlot_spares s x.tie _).trans (onSlot_spares _ x.ext _)).trans
    ((storeRecord_spares _ _).trans (post_spares ..))

theorem privacyOff_spares (x : Context) : Spares s (privacyOff x s) := by
  unfold privacyOff
  split
  · exact (enqueue_spares s x.ext _).trans (requestFunction_spares ..)
  · exact .refl s

theorem freeContext_spares (c : ContextId) : Spares s (freeContext c s) := by
  unfold freeContext
  split
  · exact .refl s
  next x _ => exact (recordFree_spares s c x).trans ((privacyOff_spares _ x).trans (withContext_spares ..))

theorem freeQuietly_spares (c : ContextId) : Spares s (freeQuietly c s) := by
  unfold freeQuietly
  split
  · exact .refl s
  next x _ => exact (recordFree_spares s c x).trans (withContext_spares ..)

theorem closeContext_spares (c : ContextId) (cause : CloseCause) : Spares s (closeContext c cause s) := by
  obtain ⟨-, same⟩ | ⟨x, -, -, ⟨-, -, clears⟩ | ⟨-, frees⟩⟩ := closeContext_cases c cause s
  · rw [same]
    exact .refl s
  · exact clears ▸ (withdraw_spares s _).trans (withContext_spares ..)
  · exact frees ▸ (withdraw_spares s _).trans ((withContext_spares ..).trans (freeContext_spares ..))

theorem sweepContext_spares (cause : CloseCause) (c : ContextId) : Spares s (sweepContext cause c s) := by
  unfold sweepContext
  split
  · exact .refl s
  · split
    · split
      · exact freeQuietly_spares s c
      · exact freeContext_spares s c
    · exact closeContext_spares s c cause

/-! ### Sign-offs and sign-ons -/

theorem releaseAdmission_spares (r : Slot) : Spares s (releaseAdmission r s) := by
  rw [releaseAdmission_eq]
  exact .of_tables rfl

theorem partCalls_spares (i : SlotId) : Spares s (partCalls i s) :=
  (Spares.forEach (fun _ _ => .of_tables rfl) _ s).trans
    (.forEach (fun c t => closeContext_spares t c .signOff) _ _)

theorem signOffSlot_spares (cause : SignOffCause) (i : SlotId) : Spares s (signOffSlot cause i s) := by
  cases admitted : (s.slot i).isAdmitted with
  | false =>
    rw [signOffSlot_not_admitted admitted]
    exact .refl s
  | true =>
    rw [signOffSlot_admitted admitted]
    exact (partCalls_spares s i).trans ((onSlot_spares _ i _).trans ((onSlot_spares _ i _).trans
      ((releaseAdmission_spares ..).trans ((onSlot_spares _ i _).trans (post_spares ..)))))

theorem clearPending_spares (i : SlotId) : Spares s (clearPending i s) := by
  unfold clearPending
  split
  · exact onRecord_spares s _ _
  · exact .refl s

theorem abandon_spares (i : SlotId) : Spares s (abandon i s) := by
  unfold abandon
  split
  · exact (withdraw_spares s _).trans ((clearPending_spares ..).trans (onSlot_spares ..))
  · exact .refl s

theorem stopSignOn_spares (i : SlotId) : Spares s (stopSignOn i s) := by
  unfold stopSignOn
  split
  · exact (withdraw_spares s _).trans ((clearPending_spares ..).trans (onSlot_spares ..))
  · exact .refl s

theorem concludeRefusal_spares (i : SlotId) (reason : Reason) (index : Option RecordId) :
    Spares s (concludeRefusal i reason index s) :=
  (enqueue_spares s i _).trans ((onSlot_spares _ i _).trans ((requestFunction_spares ..).trans (post_spares ..)))

theorem barRecord_spares (r : RecordId) : Spares s (barRecord r s) := by
  unfold barRecord
  have refused : Spares s (match (s.record r).bind Record.pendingSlot with
      | some p => s |> stopSignOn p |> concludeRefusal p .barred (some r)
      | none => s) := by
    split
    next p _ => exact (stopSignOn_spares s p).trans (concludeRefusal_spares ..)
    · exact .refl s
  dsimp only
  split
  next a _ => exact refused.trans (signOffSlot_spares _ .barred a)
  · exact refused

theorem setStandingOf_spares (r : RecordId) (faults : Nat) (standing : Standing) :
    Spares s (setStandingOf r faults standing s) := by
  unfold setStandingOf
  split
  · exact .refl s
  · dsimp only
    split
    · exact withRecord_spares s r _
    · exact (withRecord_spares s r _).trans (post_spares ..)

theorem releaseSlot_spares (i : SlotId) : Spares s (releaseSlot i s) := by
  unfold releaseSlot
  dsimp only
  split
  · exact (abandon_spares s i).trans (onSlot_spares ..)
  · exact abandon_spares s i

theorem sweepSlot_spares (k : ClassId) (i : SlotId) : Spares s (sweepSlot k i s) := by
  unfold sweepSlot
  dsimp only
  split
  · split
    · exact signOffSlot_spares s .outOfHours i
    · exact (onSlot_spares s i _).trans ((enqueue_spares ..).trans (requestFunction_spares ..))
  · exact .refl s

theorem restoreSlot_spares (k : ClassId) (i : SlotId) : Spares s (restoreSlot k i s) := by
  unfold restoreSlot
  dsimp only
  split
  · exact (onSlot_spares s i _).trans (enqueueAdmitted_spares ..)
  · exact .refl s

theorem releaseAll_spares (close : CloseCause) (signOff : SignOffCause) : Spares s (releaseAll close signOff s) :=
  (Spares.forEach (fun c t => sweepContext_spares t close c) _ s).trans
    ((Spares.forEach (fun i t => signOffSlot_spares t signOff i) _ _).trans
      (Spares.forEach (fun i t => releaseSlot_spares t i) _ _))

theorem dropOutput_spares : Spares s (dropOutput s) := .of_tables rfl

theorem stop_nonce (e : Engine) : e.stop.nonce = e.nonce := rfl

theorem softReset_spares (close : CloseCause) (signOff : SignOffCause) : Spares s (softReset close signOff s) := by
  rw [softReset_eq]
  exact (releaseAll_spares s close signOff).trans
    ((withEngine_spares _ (stop_nonce _)).trans (dropOutput_spares _))

end

/-! ### Blind to the port -/

/-- An operation that neither reads nor writes the Maintenance Port. -/
def PortBlind (f : State → State) : Prop := ∀ (p : Port) (s : State), f (s.withPort p) = (f s).withPort p

theorem PortBlind.comp {f g : State → State} (blind : PortBlind f) (after : PortBlind g) : PortBlind fun s => g (f s) :=
  fun p s => (congrArg g (blind p s)).trans (after p _)

theorem PortBlind.forEach {α : Type} {f : α → State → State} (each : ∀ x, PortBlind (f x)) (xs : List α) :
    PortBlind (forEach xs f) := by
  intro p s
  induction xs generalizing s with
  | nil => rfl
  | cons x rest ih => rw [forEach_cons, forEach_cons, each x p s, ih]

/-- The assembler's return to HUNT goes by, whatever acts. -/
theorem PortBlind.huntPort {f : State → State} (blind : PortBlind f) (s : State) : f (huntPort s) = huntPort (f s) := by
  have kept : (f s).port = s.port := congrArg (·.port) (blind s.port s)
  rw [Machine.huntPort, blind, Machine.huntPort, kept]

theorem post_portBlind (kind : EventKind) (slot : Option SlotId) (context : Option ContextId) (index : Option RecordId)
    (detail : Byte) : PortBlind (post kind slot context index detail) := by
  intro p s
  obtain ⟨disabled, same⟩ | ⟨enabled, room, joined⟩ | ⟨enabled, full, marked⟩ := post_cases kind slot context index detail s
  · rw [same, post_disabled (s := s.withPort p) disabled]
  · rw [joined, post_enabled (s := s.withPort p) enabled room]
    rfl
  · rw [marked, post_full (s := s.withPort p) enabled full]
    rfl

theorem onSlot_portBlind (i : SlotId) (f : Slot → Slot) : PortBlind (onSlot i f) := fun _ _ => rfl

theorem onRecord_portBlind (r : RecordId) (f : Record → Record) : PortBlind (onRecord r f) := fun _ _ => rfl

theorem withdraw_portBlind (q : Job → Bool) : PortBlind (withdraw q) := fun _ _ => rfl

theorem enqueue_portBlind (i : SlotId) (m : HandsetMessage) : PortBlind (enqueue i m) := by
  intro p s
  obtain ⟨deaf, same⟩ | ⟨kind, room, joined⟩ | ⟨kind, full, lost⟩ := enqueue_cases i m s
  · rw [same, enqueue_deaf (s := s.withPort p) deaf]
  · rw [joined, enqueue_room (s := s.withPort p) kind room]
    rfl
  · rw [lost, enqueue_full (s := s.withPort p) kind full]
    exact post_portBlind _ _ _ _ _ p s

theorem requestFunction_portBlind (f : ToneFunction) (i : SlotId) : PortBlind (requestFunction f i) := by
  intro p s
  unfold requestFunction
  rw [withPort_tones]
  split
  · rfl
  · split
    · rfl
    · rw [slot_withPort]
      split_ifs
      · rfl
      · rfl

theorem enqueueAdmitted_portBlind (i : SlotId) : PortBlind (enqueueAdmitted i) := by
  intro p s
  unfold enqueueAdmitted
  rw [slot_withPort]
  split
  · exact enqueue_portBlind _ _ p s
  · rfl

theorem storeRecord_portBlind (r : CallRecord) : PortBlind (storeRecord r) := by
  intro p s
  unfold storeRecord
  rw [withPort_records]
  split_ifs
  · rfl
  · rfl

theorem recordFree_portBlind (c : ContextId) (x : Context) : PortBlind (recordFree c x) := by
  intro p s
  change post _ _ _ _ _ (storeRecord (callRecord x s) ((unbind c x s).withPort p)) = _
  rw [storeRecord_portBlind, post_portBlind]
  rfl

theorem privacyOff_portBlind (x : Context) : PortBlind (privacyOff x) := by
  intro p s
  unfold privacyOff
  split_ifs
  · exact (enqueue_portBlind _ _).comp (requestFunction_portBlind _ _) p s
  · rfl

theorem freeContext_portBlind (c : ContextId) : PortBlind (freeContext c) := by
  intro p s
  unfold freeContext
  rw [context_withPort]
  split
  · rfl
  next x _ => exact (((recordFree_portBlind c x).comp (privacyOff_portBlind x)).comp
      (g := (·.withContext c none)) fun _ _ => rfl) p s

theorem freeQuietly_portBlind (c : ContextId) : PortBlind (freeQuietly c) := by
  intro p s
  unfold freeQuietly
  rw [context_withPort]
  split
  · rfl
  next x _ => exact ((recordFree_portBlind c x).comp (g := (·.withContext c none)) fun _ _ => rfl) p s

theorem closeContext_portBlind (c : ContextId) (cause : CloseCause) : PortBlind (closeContext c cause) := by
  intro p s
  unfold closeContext
  rw [context_withPort]
  split
  · rfl
  next x _ =>
    split_ifs
    · rfl
    · rfl
    · exact freeContext_portBlind c p ((withdraw (Job.isDeriveOf c) s).withContext c (some (x.haltFor cause)))

theorem sweepContext_portBlind (cause : CloseCause) (c : ContextId) : PortBlind (sweepContext cause c) := by
  intro p s
  unfold sweepContext
  rw [context_withPort]
  split
  · rfl
  · split_ifs
    · exact freeQuietly_portBlind c p s
    · exact freeContext_portBlind c p s
    · exact closeContext_portBlind c cause p s

theorem releaseAdmission_portBlind (r : Slot) : PortBlind (releaseAdmission r) := by
  intro p s
  unfold releaseAdmission
  split
  · rfl
  · split_ifs <;> rfl

theorem partCalls_portBlind (i : SlotId) : PortBlind (partCalls i) := by
  intro p s
  unfold partCalls
  rw [slot_withPort]
  exact ((PortBlind.forEach (f := markGone) (fun _ _ _ => rfl) _).comp
    (PortBlind.forEach (fun c => closeContext_portBlind c .signOff) _)) p s

theorem signOffSlot_portBlind (cause : SignOffCause) (i : SlotId) : PortBlind (signOffSlot cause i) := by
  intro p s
  cases admitted : (s.slot i).isAdmitted with
  | false => rw [signOffSlot_not_admitted admitted, signOffSlot_not_admitted (s := s.withPort p) admitted]
  | true =>
    rw [signOffSlot_admitted admitted, signOffSlot_admitted (s := s.withPort p) admitted, partCalls_portBlind]
    exact (((releaseAdmission_portBlind (s.slot i)).comp (onSlot_portBlind i _)).comp
      (post_portBlind _ _ _ _ _)) p (quietSlot i (partCalls i s))

theorem clearPending_portBlind (i : SlotId) : PortBlind (clearPending i) := by
  intro p s
  have same : pendingRecord i (s.withPort p) = pendingRecord i s := rfl
  rw [clearPending_eq, clearPending_eq, same]
  cases pendingRecord i s <;> rfl

theorem abandon_portBlind (i : SlotId) : PortBlind (abandon i) := by
  intro p s
  unfold abandon
  rw [slot_withPort]
  split_ifs
  · exact (((withdraw_portBlind (Job.isVerifyOf i)).comp (clearPending_portBlind i)).comp (onSlot_portBlind i _)) p s
  · rfl

theorem stopSignOn_portBlind (i : SlotId) : PortBlind (stopSignOn i) := by
  intro p s
  unfold stopSignOn
  rw [slot_withPort]
  split_ifs
  · exact (((withdraw_portBlind (Job.isVerifyOf i)).comp (clearPending_portBlind i)).comp (onSlot_portBlind i _)) p s
  · rfl

theorem concludeRefusal_portBlind (i : SlotId) (reason : Reason) (index : Option RecordId) :
    PortBlind (concludeRefusal i reason index) := by
  intro p s
  unfold concludeRefusal
  rw [enqueue_portBlind]
  exact (((onSlot_portBlind i _).comp (requestFunction_portBlind .refused i)).comp (post_portBlind _ _ _ _ _)) p
    (enqueue i (refusedMessage reason) s)

/-- The sign-on that is pending under a record when it becomes BARRED is refused (R78). -/
def refusePending (r : RecordId) (s : State) : State :=
  match (s.record r).bind Record.pendingSlot with
  | some p => s |> stopSignOn p |> concludeRefusal p .barred (some r)
  | none => s

theorem barRecord_eq (r : RecordId) (s : State) : barRecord r s =
    match ((refusePending r s).record r).bind Record.admittedSlot with
    | some a => signOffSlot .barred a (refusePending r s)
    | none => refusePending r s := rfl

theorem refusePending_portBlind (r : RecordId) : PortBlind (refusePending r) := by
  intro p s
  unfold refusePending
  rw [record_withPort]
  split
  next a _ => exact ((stopSignOn_portBlind a).comp (concludeRefusal_portBlind a .barred (some r))) p s
  · rfl

theorem barRecord_portBlind (r : RecordId) : PortBlind (barRecord r) := by
  intro p s
  rw [barRecord_eq, barRecord_eq, refusePending_portBlind, record_withPort]
  split
  next a _ => exact signOffSlot_portBlind .barred a p _
  · rfl

theorem setStandingOf_portBlind (r : RecordId) (faults : Nat) (standing : Standing) :
    PortBlind (setStandingOf r faults standing) := by
  intro p s
  unfold setStandingOf
  rw [record_withPort]
  split
  · rfl
  next x _ =>
    dsimp only
    split_ifs
    · rfl
    · exact post_portBlind _ _ _ _ _ p (s.withRecord r (some { x with faults := faults, standing := standing }))

theorem releaseSlot_portBlind (i : SlotId) : PortBlind (releaseSlot i) := by
  intro p s
  unfold releaseSlot
  rw [abandon_portBlind]
  dsimp only
  rw [slot_withPort]
  split_ifs
  · rfl
  · rfl

theorem sweepSlot_portBlind (k : ClassId) (i : SlotId) : PortBlind (sweepSlot k i) := by
  intro p s
  unfold sweepSlot
  rw [slot_withPort]
  dsimp only
  split_ifs
  · exact signOffSlot_portBlind .outOfHours i p s
  · exact (((onSlot_portBlind i _).comp (enqueue_portBlind i _)).comp (requestFunction_portBlind _ i)) p s
  · rfl

theorem restoreSlot_portBlind (k : ClassId) (i : SlotId) : PortBlind (restoreSlot k i) := by
  intro p s
  unfold restoreSlot
  rw [slot_withPort]
  dsimp only
  split_ifs
  · exact ((onSlot_portBlind i _).comp (enqueueAdmitted_portBlind i)) p s
  · rfl

/-- Class `k`'s in-band flag as the clock gives it (R56). -/
def bandNow (k : ClassId) (s : State) : Bool :=
  inBandAt (s.classRecord k).bandStart (s.classRecord k).bandEnd (minuteOfDay s.clock.reading)

/-- Class `k` with its flag recomputed and its change posted, before its slots are swept or restored (R56). -/
def bandTurned (k : ClassId) (s : State) : State :=
  post .bandChange none none none (byte (k.val + (if bandNow k s then 0x80 else 0)))
    (s.withClass k { s.classRecord k with inBand := bandNow k s })

theorem recomputeBand_same {k : ClassId} {s : State} (same : bandNow k s = (s.classRecord k).inBand) :
    recomputeBand k s = s := if_pos same

theorem recomputeBand_in {k : ClassId} {s : State} (out : (s.classRecord k).inBand = false) (now : bandNow k s = true) :
    recomputeBand k s = forEach slotIds (restoreSlot k) (bandTurned k s) := by
  have changed : bandNow k s ≠ (s.classRecord k).inBand := by rw [now, out]; decide
  exact (if_neg changed).trans (if_pos now)

theorem recomputeBand_out {k : ClassId} {s : State} (inside : (s.classRecord k).inBand = true)
    (now : bandNow k s = false) : recomputeBand k s = forEach slotIds (sweepSlot k) (bandTurned k s) := by
  have changed : bandNow k s ≠ (s.classRecord k).inBand := by rw [now, inside]; decide
  exact (if_neg changed).trans (if_neg (Bool.eq_false_iff.mp now))

theorem bandTurned_portBlind (k : ClassId) : PortBlind (bandTurned k) := fun p s =>
  post_portBlind _ _ _ _ _ p (s.withClass k { s.classRecord k with inBand := bandNow k s })

theorem recomputeBand_portBlind (k : ClassId) : PortBlind (recomputeBand k) := by
  intro p s
  cases now : bandNow k s <;> cases flag : (s.classRecord k).inBand
  · rw [recomputeBand_same (now.trans flag.symm), recomputeBand_same (s := s.withPort p) (now.trans flag.symm)]
  · rw [recomputeBand_out flag now, recomputeBand_out (s := s.withPort p) flag now, bandTurned_portBlind,
      PortBlind.forEach (sweepSlot_portBlind k)]
  · rw [recomputeBand_in flag now, recomputeBand_in (s := s.withPort p) flag now, bandTurned_portBlind,
      PortBlind.forEach (restoreSlot_portBlind k)]
  · rw [recomputeBand_same (now.trans flag.symm), recomputeBand_same (s := s.withPort p) (now.trans flag.symm)]

theorem recomputeBands_portBlind : PortBlind recomputeBands := by
  intro p s
  unfold recomputeBands
  exact PortBlind.forEach recomputeBand_portBlind _ p s

theorem releaseAll_portBlind (close : CloseCause) (signOff : SignOffCause) : PortBlind (releaseAll close signOff) := by
  intro p s
  unfold releaseAll
  rw [PortBlind.forEach (sweepContext_portBlind close), PortBlind.forEach (signOffSlot_portBlind signOff),
    PortBlind.forEach releaseSlot_portBlind]

theorem dropOutput_portBlind : PortBlind dropOutput := fun _ _ => rfl

theorem withPort_stopped (p : Port) (s : State) :
    (s.withPort p).withEngine (s.withPort p).engine.stop = (s.withEngine s.engine.stop).withPort p := rfl

theorem softReset_portBlind (close : CloseCause) (signOff : SignOffCause) : PortBlind (softReset close signOff) := by
  intro p s
  rw [softReset_eq, softReset_eq, releaseAll_portBlind, withPort_stopped, dropOutput_portBlind]

/-- A request answered OK whose action does not look at the port. -/
theorem whileRunning_request_blind {code : Byte} {size : Nat} {act : List Byte → State → Answer} {body : List Byte}
    {s : State} {f : State → State} (accepts : Accepts s) (length : body.length = size) (blind : PortBlind f)
    (done : act body (huntPort s) = ok (f (huntPort s))) :
    whileRunning (request code size act body) s = .next (answered code .ok [] (f s)) :=
  whileRunning_request_ok accepts length (blind.huntPort s ▸ done)

end Sys2Proof.Machine
end

section
/-! PROOFS. The requests on slot records and on contexts, and those of the part as a whole: SET-SLOT, READ-SLOT,
FORCE-SIGN-OFF, REKEY, GET-STATUS, SET-TIMERS and READ-CONTEXT. -/

namespace Sys2Proof.Machine

open Sys2Proof.Safety

/-! ### REKEY -/

theorem exec_rekey : ∀ (body : List Byte) (s : State),
    exec (.rekey body) s = whileRunning (request 0x44 1 rekey body) s := by
  intros; rfl

/-- The value of the next draw (R96). -/
def drawnNonce (s : State) : BitVec 24 := s.engine.nonce + 0x5B2C4F + BitVec.ofNat 24 s.clock.reading.frame

theorem drawNonce_eq (s : State) : drawNonce s = s.withEngine { s.engine with nonce := drawnNonce s } := rfl

theorem postJob_withContext (j : Job) (c : ContextId) (o : Option Context) (e : Engine) (s : State) :
    postJob j ((s.withEngine e).withContext c o) = (s.withEngine (e.post j)).withContext c o := rfl

/-- Context `c`, which is `x` with current key `k`, once its rekey has started (R115). -/
def rekeyed (c : ContextId) (x : Context) (k : CallKey) (s : State) : State :=
  (s.withEngine (Engine.post (.txKey c x.site (drawnNonce s) (k.epoch + 1))
    { s.engine with nonce := drawnNonce s })).withContext c (some { x with
      rekeyElapsed := 0
      scrambler := { x.scrambler with
        state := .rekeying
        next := some { nonce := drawnNonce s, epoch := k.epoch + 1, words := none, fresh := false } } })

section
variable {body : List Byte} {s : State} {c : ContextId} {x : Context} {k : CallKey}

theorem startRekey_running (held : s.context c = some x) (running : x.scrambler.state = .running)
    (current : x.scrambler.current = some k) : startRekey c s = rekeyed c x k s := by
  unfold startRekey
  rw [held]
  dsimp only
  have epoch : (x.scrambler.current.map CallKey.epoch).getD 0 = k.epoch := by rw [current]; rfl
  rw [if_pos running, epoch, drawNonce_eq, withEngine_engine, postJob_withContext]
  rfl

theorem rekey_illegal (high : 63 < byteAt body 0) : rekey body s = refusedWith .badArgument s := by
  rw [rekey, indexOf_eq_none_of_le (size := 64) high]

theorem rekey_running (index : byteAt body 0 = c.val) (held : s.context c = some x)
    (running : x.scrambler.state = .running) : rekey body s = ok (startRekey c s) := by
  rw [rekey, indexOf_of_eq_val index]
  dsimp only
  rw [held, if_pos (by rw [Option.any_some, running]; rfl)]

theorem rekey_wrongState (index : byteAt body 0 = c.val)
    (idle : ∀ x, s.context c = some x → x.scrambler.state ≠ .running) : rekey body s = refusedWith .wrongState s := by
  rw [rekey, indexOf_of_eq_val index]
  refine if_neg fun running => ?_
  obtain ⟨x, held, running⟩ := (Option.any_eq_true _ _).mp running
  exact idle x held (beq_iff_eq.mp running)

end

/-- Settles O40: R116, with the rekey start of R115. -/
theorem rekeyStarts : Obligations.RekeyStarts := by
  intro body s accepts length
  simp only [exec_rekey]
  refine ⟨fun high => whileRunning_request_refused accepts length (rekey_illegal high), fun c index => ⟨?_, ?_⟩⟩
  · intro x k held running current
    refine whileRunning_request_ok accepts length ((rekey_running (s := huntPort s) index held running).trans ?_)
    rw [startRekey_running (s := huntPort s) held running current]
    rfl
  · exact fun idle => whileRunning_request_refused accepts length (rekey_wrongState (s := huntPort s) index idle)

/-! ### Reports -/

theorem byte_toNat_setWidth {w : Nat} (x : BitVec w) : byte x.toNat = x.setWidth 8 := BitVec.ofNat_toNat 8 x

theorem exec_getStatus : ∀ (body : List Byte) (s : State),
    exec (.getStatus body) s = whileRunning (request 0x01 0 getStatus body) s := by
  intros; rfl

theorem exec_setTimers : ∀ (body : List Byte) (s : State),
    exec (.setTimers body) s = whileRunning (request 0x03 8 setTimers body) s := by
  intros; rfl

theorem exec_readContext : ∀ (body : List Byte) (s : State),
    exec (.readContext body) s = whileRunning (request 0x45 1 readContext body) s := by
  intros; rfl

/-- What READ-CONTEXT reports of context `c`, which is `x`, with the values that stand for its codes and for its fields that
may be absent (R118). -/
def contextReport (c : ContextId) (x : Context) (phase : Byte) (identifier : Nat) (masking reached cause epoch : Byte)
    (last : Nat) (held : Byte) : List Byte :=
  [byte c.val, phase, byte x.tie.number, byte x.ext.number] ++ bytes16 x.index.val ++ bytes24 x.number.toNat ++
    [byte x.site.val] ++ bytes16 identifier ++
    [byte x.profile.segment, masking, byte x.profile.presync, byte x.profile.flywheel] ++
    bytes24 x.profile.huntLimit ++ bytes16 x.profile.clearGuard ++ bytes16 x.profile.rekeyInterval ++
    bytes16 x.openStamp.day ++
    [byte x.openStamp.hour, byte x.openStamp.minute, byte x.openStamp.second] ++ bytes16 x.openStamp.frame ++
    bytes32 x.elapsed ++ bytes32 x.rekeyElapsed ++ bytes16 x.rekeys ++
    [byte x.syncLosses, reached, cause, byte x.scrambler.state.code, epoch] ++ bytes24 last ++
    [byte x.descrambler.state.code, held]

theorem contextBytes_eq (c : ContextId) (x : Context) (s : State) :
    [byte c.val, byte x.phase.code] ++ contextBytes x s = contextReport c x (byte x.phase.code)
      (((s.sites[x.site]).map fun y => y.identifier.toNat).getD 0xFFFF) (byte (flagNat x.profile.masking))
      (byte (flagNat x.reached)) (byte ((x.cause.map CloseCause.code).getD 0xFF))
      (byte ((x.scrambler.current.map fun k => k.epoch.toNat).getD 0xFF))
      ((x.scrambler.last.map BitVec.toNat).getD 0xFFFFFF)
      (byte ((x.descrambler.held.map fun k => k.epoch.toNat).getD 0xFF)) := by
  unfold contextBytes contextReport optional8 optional16 optional24 stampBytes
  simp only [List.append_assoc, List.cons_append, List.nil_append]

theorem bytes16_length (n : Nat) : (bytes16 n).length = 2 := rfl

theorem bytes24_length (n : Nat) : (bytes24 n).length = 3 := rfl

theorem bytes32_length (n : Nat) : (bytes32 n).length = 4 := rfl

theorem stampBytes_length (r : Reading) : (stampBytes r).length = 7 := rfl

theorem contextBytes_length (x : Context) (s : State) : (contextBytes x s).length = 48 := by
  unfold contextBytes optional8 optional16 optional24
  simp only [List.length_append, List.length_cons, List.length_nil, bytes16_length, bytes24_length, bytes32_length,
    stampBytes_length]

/-- The body of GET-STATUS, field by field (R181). -/
theorem statusBody_eq (s : State) : statusBody s =
    [0x31, 0x60, 1, byte s.highway.timing.code] ++ bytes16 s.highway.slipCount ++ bytes16 s.port.rejected ++
      [byte s.events.queue.length, byte s.records.queue.length] ++ stampBytes s.clock.reading ++
      [byte (contextIds.countP fun c => (s.context c).isSome), byte (slotIds.countP fun i => (s.slot i).isAdmitted)] := rfl

theorem readContext_illegal {body : List Byte} {s : State} (high : 63 < byteAt body 0) :
    readContext body s = refusedWith .badArgument s := by
  rw [readContext, indexOf_eq_none_of_le (size := 64) high]

theorem readContext_free {c : ContextId} {s : State} (free : s.context c = none) :
    readContext [byte c.val] s = answerWith ([byte c.val, 0] ++ List.replicate 48 0xFF) s := by
  have index : byteAt [byte c.val] 0 = c.val := byte_fin_toNat c (by decide)
  rw [readContext, indexOf_of_eq_val index]
  dsimp only
  rw [free]

theorem readContext_held {c : ContextId} {x : Context} {s : State} (held : s.context c = some x) :
    readContext [byte c.val] s = answerWith ([byte c.val, byte x.phase.code] ++ contextBytes x s) s := by
  have index : byteAt [byte c.val] 0 = c.val := byte_fin_toNat c (by decide)
  rw [readContext, indexOf_of_eq_val index]
  dsimp only
  rw [held]

/-- What stands in a report for the fields of `x` that are codes or may be absent (R118). -/
theorem contextReport_fields (c : ContextId) (x : Context) (s : State) {phase masking reached cause epoch held : Byte}
    {identifier last : Nat} (phase_eq : byte x.phase.code = phase)
    (identifier_eq : ((s.sites[x.site]).map fun y => y.identifier.toNat).getD 0xFFFF = identifier)
    (masking_eq : byte (flagNat x.profile.masking) = masking) (reached_eq : byte (flagNat x.reached) = reached)
    (cause_eq : byte ((x.cause.map CloseCause.code).getD 0xFF) = cause)
    (epoch_eq : byte ((x.scrambler.current.map fun k => k.epoch.toNat).getD 0xFF) = epoch)
    (last_eq : (x.scrambler.last.map BitVec.toNat).getD 0xFFFFFF = last)
    (held_eq : byte ((x.descrambler.held.map fun k => k.epoch.toNat).getD 0xFF) = held) :
    [byte c.val, byte x.phase.code] ++ contextBytes x s =
      contextReport c x phase identifier masking reached cause epoch last held := by
  rw [contextBytes_eq, phase_eq, identifier_eq, masking_eq, reached_eq, cause_eq, epoch_eq, last_eq, held_eq]

/-- Settles O48: each body is that of the state, field by field. -/
theorem statusAndTimersRequests : Obligations.StatusAndTimersRequests := by
  intro s accepts
  simp only [exec_getStatus, exec_setTimers, exec_readContext]
  refine ⟨?_, fun body length => whileRunning_request_ok accepts length rfl,
    fun body length high => whileRunning_request_refused accepts length (readContext_illegal high), fun c =>
    ⟨fun free => ?_, fun x held => ⟨[byte c.val, byte x.phase.code] ++ contextBytes x s, ?_, ?_, ?_⟩⟩⟩
  · exact whileRunning_request_answer accepts rfl (congrArg (answerWith · (huntPort s)) (statusBody_eq (huntPort s)))
  · exact whileRunning_request_answer accepts rfl (readContext_free (s := huntPort s) free)
  · exact whileRunning_request_answer accepts rfl (readContext_held (s := huntPort s) held)
  · rw [List.length_append, contextBytes_length]
    rfl
  · refine contextReport_fields c x s ?_ ?_ (byte_flagNat _) (byte_flagNat _) ?_ ?_ ?_ ?_
    · cases x.phase <;> rfl
    · cases s.sites[x.site] <;> rfl
    · cases x.cause <;> rfl
    · cases x.scrambler.current with
      | none => rfl
      | some k => exact byte_toNat_setWidth k.epoch
    · cases x.scrambler.last <;> rfl
    · cases x.descrambler.held with
      | none => rfl
      | some k => exact byte_toNat_setWidth k.epoch

/-! ### SET-SLOT -/

theorem exec_setSlot : ∀ (body : List Byte) (s : State),
    exec (.setSlot body) s = whileRunning (request 0x10 3 setSlot body) s := by
  intros; rfl

theorem kindOf_code (k : Kind) : kindOf (byte k.code).toNat = some k := by
  cases k <;> rfl

theorem kindOf_eq_none {n : Nat} (high : 3 < n) : kindOf n = none := by
  obtain ⟨m, rfl⟩ := Nat.exists_eq_add_of_lt high
  rw [show 3 + m + 1 = m + 4 by omega]
  rfl

/-- SET-SLOT on a body that names a slot and a kind (R33). -/
theorem setSlot_named {n : Nat} (i : SlotId) (k : Kind) (small : n ≤ 255) (s : State) :
    setSlot [byte i.number, byte k.code, byte n] s =
      if (s.slot i).inUse then refusedWith .inUse s
      else ok (onSlot i (fun r => if k = r.kind then r.retime (min n 15) else r.rekind k (min n 15)) s) := by
  have length : byteAt [byte i.number, byte k.code, byte n] 2 = n := byte_toNat (by omega)
  have kind : kindOf (byteAt [byte i.number, byte k.code, byte n] 1) = some k := kindOf_code k
  rw [setSlot, slotOf_number_cons]
  dsimp only
  rw [kind, length]
  rfl

theorem setSlot_illegal {body : List Byte} {s : State}
    (illegal : byteAt body 0 = 0 ∨ 127 < byteAt body 0 ∨ 3 < byteAt body 1) :
    setSlot body s = refusedWith .badArgument s := by
  unfold setSlot
  split
  · rfl
  next i slot =>
    have named : ¬(byteAt body 0 = 0 ∨ 127 < byteAt body 0) := fun outside => by simp [slotOf_eq_none outside] at slot
    rw [kindOf_eq_none (by tauto)]

/-- Settles O50: R33's checks, then R34 for a new kind and R36 for the kind kept. -/
theorem setSlotWritesTheKind : Obligations.SetSlotWritesTheKind := by
  refine ⟨fun i k n s accepts small => ?_, fun body s accepts length illegal => ?_⟩
  · simp only [exec_setSlot]
    have writes {r : Slot} (free : (s.slot i).inUse = false)
        (written : (if k = (s.slot i).kind then (s.slot i).retime (min n 15) else (s.slot i).rekind k (min n 15)) = r) :
        whileRunning (request 0x10 3 setSlot [byte i.number, byte k.code, byte n]) s =
          .next (answered 0x10 .ok [] (s.withSlot i r)) := by
      subst written
      refine whileRunning_request_ok accepts rfl ((setSlot_named i k small (huntPort s)).trans ?_)
      exact if_neg (Bool.eq_false_iff.mp free)
    refine ⟨fun used => ?_, fun free other => ?_, fun free same settled => ?_⟩
    · refine whileRunning_request_refused accepts rfl ((setSlot_named i k small (huntPort s)).trans ?_)
      exact if_pos used
    · exact ⟨_, writes free (if_neg other), rfl, rfl, rfl, rfl, rfl, rfl, rfl, rfl, rfl, rfl, rfl, rfl, rfl, rfl, rfl,
        rfl, rfl, rfl, rfl, rfl, rfl, rfl⟩
    · refine writes free ((if_pos same).trans ?_)
      rw [Slot.retime, settled, if_neg Bool.false_ne_true]
  · rw [exec_setSlot]
    exact whileRunning_request_refused accepts length (setSlot_illegal illegal)

/-! ### READ-SLOT -/

theorem exec_readSlot : ∀ (body : List Byte) (s : State),
    exec (.readSlot body) s = whileRunning (request 0x11 1 readSlot body) s := by
  intros; rfl

theorem exec_forceSignOff : ∀ (body : List Byte) (s : State),
    exec (.forceSignOff body) s = whileRunning (request 0x12 1 forceSignOff body) s := by
  intros; rfl

theorem readSlot_illegal {body : List Byte} {s : State} (outside : byteAt body 0 = 0 ∨ 127 < byteAt body 0) :
    readSlot body s = refusedWith .badArgument s := by
  rw [readSlot, slotOf_eq_none outside]

theorem readSlot_named (i : SlotId) (s : State) : readSlot [byte i.number] s =
    answerWith (readSlotBody i s.timers (s.slot i)) (onSlot i (fun r => { r with garbled := 0 }) s) := by
  rw [readSlot, slotOf_number_cons]

/-- A value reported of an EXTENSION slot: what stands for an absent one elsewhere (R35). -/
def shownValue (r : Slot) (v : Option Nat) (absent : Nat) : Nat := if r.kind = .extension then v.getD absent else absent

section
variable (r : Slot)

theorem forExtension_getD (v absent : Nat) :
    (r.forExtension v).getD absent = shownValue r (some v) absent := by
  unfold Slot.forExtension shownValue
  split <;> rfl

theorem forExtension_join_getD (v : Option Nat) (absent : Nat) :
    (r.forExtension v).join.getD absent = shownValue r v absent := by
  unfold Slot.forExtension shownValue
  split <;> rfl

theorem forExtension_join_map_getD {α : Type} (v : Option α) (f : α → Nat) (absent : Nat) :
    ((r.forExtension v).join.map f).getD absent = shownValue r (v.map f) absent := by
  unfold Slot.forExtension shownValue
  split <;> rfl

end

/-- The body of READ-SLOT, field by field (R35). -/
theorem readSlotBody_eq (i : SlotId) (timers : Timers) (r : Slot) : readSlotBody i timers r =
    [byte i.number, byte r.kind.code, byte r.filterLength, r.filtered.setWidth 8, r.candidate.setWidth 8,
        byte r.persistence, byte (r.idle / 256), byte r.idle, byte (shownValue r (some r.admission.code) 0xFF)] ++
      bytes16 (shownValue r (r.boundIndex.map Fin.val) 0xFFFF) ++
      [byte (shownValue r (some (flagNat r.visitor)) 0xFF)] ++
      bytes24 (shownValue r (r.number.map BitVec.toNat) 0xFFFFFF) ++
      bytes24 (shownValue r (r.timerRemaining timers) 0xFFFFFF) ++
      [byte (((if r.kind = .tie then r.boundContext else none).map Fin.val).getD 0xFF),
        byte (shownValue r (some r.partners.length) 0xFF)] ++
      [0, 1, 2, 3].map (fun k => byte (shownValue r (r.partners[k]?.map Fin.val) 0xFF)) ++ [byte r.garbled] := by
  simp only [readSlotBody, optional8, optional16, optional24, forExtension_getD, forExtension_join_getD,
    forExtension_join_map_getD]
  rfl

theorem boundContext_getD (r : Slot) : ((if r.kind = .tie then r.boundContext else none).map Fin.val).getD 0xFF =
    match r.kind, r.boundContext with
      | .tie, some c => c.val
      | _, _ => 0xFF := by
  cases r.kind <;> cases r.boundContext <;> rfl

/-! ### FORCE-SIGN-OFF -/

section
variable {s : State} {i : SlotId}

theorem forceSignOff_illegal {body : List Byte} (outside : byteAt body 0 = 0 ∨ 127 < byteAt body 0) :
    forceSignOff body s = refusedWith .badArgument s := by
  rw [forceSignOff, slotOf_eq_none outside]

/-- FORCE-SIGN-OFF on a body that names a slot (R79). -/
theorem forceSignOff_named (i : SlotId) (s : State) : forceSignOff [byte i.number] s =
    if (s.slot i).kind ≠ .extension then refusedWith .wrongState s
    else match (s.slot i).admission with
      | .locked | .hold => refusedWith .wrongState s
      | .challenged | .verifying => ok (abandon i s)
      | .admitted | .expiring => ok (signOffSlot .management i s) := by
  rw [forceSignOff, slotOf_number_cons] <;> rfl

theorem forceSignOff_out (kind : (s.slot i).kind = .extension)
    (out : (s.slot i).admission = .locked ∨ (s.slot i).admission = .hold) :
    forceSignOff [byte i.number] s = refusedWith .wrongState s := by
  rw [forceSignOff_named, if_neg (not_not_intro kind)]
  obtain locked | hold := out
  · rw [locked]
  · rw [hold]

theorem forceSignOff_signing (kind : (s.slot i).kind = .extension) (signing : (s.slot i).signingOn = true) :
    forceSignOff [byte i.number] s = ok (abandon i s) := by
  rw [forceSignOff_named, if_neg (not_not_intro kind)]
  obtain challenged | verifying := (signingOn_iff _).mp signing
  · rw [challenged]
  · rw [verifying]

theorem forceSignOff_admitted (kind : (s.slot i).kind = .extension) (admitted : (s.slot i).isAdmitted = true) :
    forceSignOff [byte i.number] s = ok (signOffSlot .management i s) := by
  rw [forceSignOff_named, if_neg (not_not_intro kind)]
  obtain admitted | expiring := (isAdmitted_iff _).mp admitted
  · rw [admitted]
  · rw [expiring]

end

/-- Settles O51: R35's body field by field, and R79 by the slot's state. -/
theorem readSlotAndForceSignOff : Obligations.ReadSlotAndForceSignOff := by
  refine ⟨fun body s accepts length outside => ?_, fun i s accepts => ⟨?_, fun kind => ?_, fun kind =>
    ⟨fun out => ?_, fun signing => ?_, fun admitted => ?_⟩⟩⟩
  · rw [exec_readSlot, exec_forceSignOff]
    exact ⟨whileRunning_request_refused accepts length (readSlot_illegal outside),
      whileRunning_request_refused accepts length (forceSignOff_illegal outside)⟩
  · refine ⟨readSlotBody i s.timers (s.slot i), ?_, ?_, ?_⟩
    · rw [exec_readSlot]
      exact whileRunning_request_answer accepts rfl (readSlot_named i (huntPort s))
    · rw [readSlotBody_eq]
      rfl
    · rw [readSlotBody_eq, boundContext_getD]
      rfl
  · rw [exec_forceSignOff]
    refine whileRunning_request_refused accepts rfl ((forceSignOff_named i (huntPort s)).trans ?_)
    exact if_pos kind
  · rw [exec_forceSignOff]
    exact whileRunning_request_refused accepts rfl (forceSignOff_out (s := huntPort s) kind out)
  · rw [exec_forceSignOff]
    exact whileRunning_request_blind accepts rfl (abandon_portBlind i)
      (forceSignOff_signing (s := huntPort s) kind signing)
  · rw [exec_forceSignOff]
    exact whileRunning_request_blind accepts rfl (signOffSlot_portBlind .management i)
      (forceSignOff_admitted (s := huntPort s) kind admitted)

end Sys2Proof.Machine
end

section
/-! PROOFS. The requests on the directory, LOAD-ENTRY, READ-DIRECTORY and SET-STANDING, and OPEN-PRIVACY. -/

namespace Sys2Proof.Machine

open Sys2Proof.Safety

theorem classRecord_huntPort (s : State) (k : ClassId) : (huntPort s).classRecord k = s.classRecord k := rfl

/-! ### LOAD-ENTRY -/

theorem exec_loadEntry : ∀ (body : List Byte) (s : State),
    exec (.loadEntry body) s = whileRunning (request 0x20 20 loadEntry body) s := by
  intros; rfl

theorem visitorElsewhere_iff (i : Option SlotId) (n : ExtensionNumber) (s : State) : visitorElsewhere i n s = true ↔
    ∃ j, some j ≠ i ∧ (s.slot j).isAdmitted = true ∧ (s.slot j).visitor = true ∧ (s.slot j).number = some n := by
  simp [visitorElsewhere, slotIds, and_assoc]

theorem numberElsewhere_iff (r : RecordId) (n : ExtensionNumber) (s : State) : numberElsewhere r n s = true ↔
    ∃ q x, q ≠ r ∧ s.record q = some x ∧ x.number = n := by
  simp [numberElsewhere, recordIds, Option.any_eq_true]

theorem record_inUse_iff (o : Option Record) : o.any Record.inUse = true ↔
    ∃ x, o = some x ∧ (x.admittedSlot.isSome ∨ x.pendingSlot.isSome) := by
  simp [Option.any_eq_true, Record.inUse]

section
variable {body : List Byte} {s : State} {r : RecordId} {k : ClassId}

/-- LOAD-ENTRY on a body that names a record and a class (R53). -/
theorem loadEntry_named (index : field16 body 0 = r.val) (cls : byteAt body 19 = k.val) : loadEntry body s =
    if wellFormedNumber (loadedRecord body k).number = false then refusedWith .badArgument s
    else if (s.record r).any Record.inUse then refusedWith .inUse s
    else if visitorElsewhere none (loadedRecord body k).number s then refusedWith .inUse s
    else if numberElsewhere r (loadedRecord body k).number s then refusedWith .duplicate s
    else if (s.record r).any (fun old => old.standing != .good) then
      ok (post .standingChanged none none (some r) 0 (s.withRecord r (some (loadedRecord body k))))
    else ok (s.withRecord r (some (loadedRecord body k))) := by
  rw [loadEntry, indexOf_of_eq_val index, indexOf_of_eq_val cls]
  rfl

/-- R53's checks, none of which refuses. -/
structure Loads (body : List Byte) (k : ClassId) (r : RecordId) (s : State) : Prop where
  wellFormed : wellFormedNumber (loadedRecord body k).number = true
  unused : ¬(s.record r).any Record.inUse = true
  novisitor : ¬visitorElsewhere none (loadedRecord body k).number s = true
  unique : ¬numberElsewhere r (loadedRecord body k).number s = true

theorem loadEntry_restored (index : field16 body 0 = r.val) (cls : byteAt body 19 = k.val) (loads : Loads body k r s)
    (changed : ∃ x, s.record r = some x ∧ x.standing ≠ .good) : loadEntry body s =
      ok (post .standingChanged none none (some r) 0 (s.withRecord r (some (loadedRecord body k)))) := by
  obtain ⟨x, held, standing⟩ := changed
  have posts : (s.record r).any (fun old => old.standing != .good) = true := by
    rw [held]
    exact bne_iff_ne.mpr standing
  rw [loadEntry_named index cls, if_neg (by rw [loads.wellFormed]; decide), if_neg loads.unused, if_neg loads.novisitor,
    if_neg loads.unique, if_pos posts]

theorem loadEntry_fresh (index : field16 body 0 = r.val) (cls : byteAt body 19 = k.val) (loads : Loads body k r s)
    (good : ∀ x, s.record r = some x → x.standing = .good) :
    loadEntry body s = ok (s.withRecord r (some (loadedRecord body k))) := by
  have silent : ¬(s.record r).any (fun old => old.standing != .good) = true := by
    intro changed
    obtain ⟨x, held, standing⟩ := (Option.any_eq_true _ _).mp changed
    exact bne_iff_ne.mp standing (good x held)
  rw [loadEntry_named index cls, if_neg (by rw [loads.wellFormed]; decide), if_neg loads.unused, if_neg loads.novisitor,
    if_neg loads.unique, if_neg silent]

theorem loadEntry_illegal (illegal : 511 < field16 body 0 ∨ wellFormedNumber (BitVec.ofNat 24 (field24 body 2)) = false ∨
    7 < byteAt body 19) : loadEntry body s = refusedWith .badArgument s := by
  unfold loadEntry
  split
  next r k index cls =>
    have low : ¬511 < field16 body 0 := fun high => by simp [indexOf_eq_none_of_le (size := 512) high] at index
    have legal : ¬7 < byteAt body 19 := fun high => by simp [indexOf_eq_none_of_le (size := 8) high] at cls
    exact if_pos (by tauto)
  · rfl

theorem loadEntry_inUse (index : field16 body 0 = r.val) (cls : byteAt body 19 = k.val)
    (wellFormed : wellFormedNumber (loadedRecord body k).number = true)
    (busy : (s.record r).any Record.inUse = true ∨ visitorElsewhere none (loadedRecord body k).number s = true) :
    loadEntry body s = refusedWith .inUse s := by
  rw [loadEntry_named index cls, if_neg (by rw [wellFormed]; decide)]
  by_cases used : (s.record r).any Record.inUse = true
  · rw [if_pos used]
  · rw [if_neg used, if_pos (busy.resolve_left used)]

theorem loadEntry_duplicate (index : field16 body 0 = r.val) (cls : byteAt body 19 = k.val)
    (wellFormed : wellFormedNumber (loadedRecord body k).number = true) (unused : ¬(s.record r).any Record.inUse = true)
    (novisitor : ¬visitorElsewhere none (loadedRecord body k).number s = true)
    (elsewhere : numberElsewhere r (loadedRecord body k).number s = true) :
    loadEntry body s = refusedWith .duplicate s := by
  rw [loadEntry_named index cls, if_neg (by rw [wellFormed]; decide), if_neg unused, if_neg novisitor, if_pos elsewhere]

end

/-- Settles O52: R53's checks in their order, then the write. -/
theorem entriesAreLoaded : Obligations.EntriesAreLoaded := by
  refine ⟨fun r n k body s accepts length index number cls wellFormed unused novisitor unique => ?_,
    fun body s accepts length => ?_⟩
  · simp only [exec_loadEntry]
    have spelt : BitVec.ofNat 24 (field24 body 2) = n := by rw [number, BitVec.ofNat_toNat, BitVec.setWidth_eq]
    subst spelt
    have loads : Loads body k r (huntPort s) := by
      refine ⟨wellFormed, ?_, ?_, ?_⟩
      · rw [record_inUse_iff]
        rintro ⟨x, held, used⟩
        simp [unused x held] at used
      · rw [visitorElsewhere_iff]
        rintro ⟨j, -, admitted, visitor, named⟩
        exact novisitor j admitted visitor named
      · rw [numberElsewhere_iff]
        rintro ⟨q, x, other, held, named⟩
        exact other (unique q x held named)
    refine ⟨fun changed => ?_, fun good => ?_⟩
    · exact whileRunning_request_blind (f := fun s => post .standingChanged none none (some r) 0
          (s.withRecord r (some (loadedRecord body k)))) accepts length
        (fun p s => post_portBlind _ _ _ _ _ p (s.withRecord r (some (loadedRecord body k))))
        (loadEntry_restored index cls loads changed)
    · exact whileRunning_request_ok accepts length (loadEntry_fresh index cls loads good)
  · simp only [exec_loadEntry]
    refine ⟨fun illegal => whileRunning_request_refused accepts length (loadEntry_illegal illegal),
      fun r index wellFormed legal => ?_⟩
    obtain ⟨k, cls⟩ : ∃ k : ClassId, byteAt body 19 = k.val := ⟨⟨byteAt body 19, by omega⟩, rfl⟩
    have used : ((huntPort s).record r).any Record.inUse = true ↔
        ∃ x, s.record r = some x ∧ (x.admittedSlot.isSome ∨ x.pendingSlot.isSome) := record_inUse_iff _
    have visiting : visitorElsewhere none (loadedRecord body k).number (huntPort s) = true ↔
        ∃ i, (s.slot i).isAdmitted = true ∧ (s.slot i).visitor = true ∧
          (s.slot i).number = some (BitVec.ofNat 24 (field24 body 2)) := by
      rw [visitorElsewhere_iff]
      simp only [ne_eq, Option.some_ne_none, not_false_eq_true, true_and]
      rfl
    refine ⟨fun busy => ?_, fun idle elsewhere => ?_⟩
    · refine whileRunning_request_refused accepts length (loadEntry_inUse index cls wellFormed ?_)
      rwa [used, visiting]
    · rw [not_or, ← used, ← visiting] at idle
      exact whileRunning_request_refused accepts length (loadEntry_duplicate index cls wellFormed idle.1 idle.2
        ((numberElsewhere_iff r _ (huntPort s)).mpr elsewhere))

/-! ### READ-DIRECTORY -/

theorem exec_readDirectory : ∀ (body : List Byte) (s : State),
    exec (.readDirectory body) s = whileRunning (request 0x22 3 readDirectory body) s := by
  intros; rfl

theorem recordIds_ascending : recordIds.Pairwise (· < ·) := List.pairwise_lt_finRange 512

theorem mem_recordIds_drop {start : Nat} {r : RecordId} : r ∈ recordIds.drop start ↔ start ≤ r.val := by
  rw [List.mem_drop_iff_getElem]
  constructor
  · rintro ⟨k, inside, rfl⟩
    simp [recordIds]
  · intro after
    refine ⟨r.val - start, ?_, ?_⟩
    · simp [recordIds]
      omega
    · simp [recordIds, Nat.add_sub_cancel' after]

/-- The in-use records from `start` upward, in index order. -/
def inUseFrom (start : Nat) (s : State) : List (RecordId × Record) :=
  (recordIds.drop start).filterMap fun r => (s.record r).map fun x => (r, x)

section
variable {s : State} {start count : Nat}

theorem scanDirectory_eq : scanDirectory start count s = (inUseFrom start s).take count := rfl

theorem mem_inUseFrom {r : RecordId} {x : Record} :
    (r, x) ∈ inUseFrom start s ↔ start ≤ r.val ∧ s.record r = some x := by
  rw [inUseFrom, List.mem_filterMap]
  constructor
  · rintro ⟨q, after, found⟩
    obtain ⟨y, held, same⟩ := Option.map_eq_some_iff.mp found
    obtain ⟨rfl, rfl⟩ := Prod.mk.inj same
    exact ⟨mem_recordIds_drop.mp after, held⟩
  · rintro ⟨after, held⟩
    exact ⟨r, mem_recordIds_drop.mpr after, by rw [held]; rfl⟩

theorem inUseFrom_ascending : (inUseFrom start s).Pairwise fun p q => p.1 < q.1 := by
  refine List.Pairwise.filterMap _ (fun r q before e first f second => ?_)
    (recordIds_ascending.sublist (List.drop_sublist start recordIds))
  obtain ⟨x, -, rfl⟩ := Option.map_eq_some_iff.mp first
  obtain ⟨y, -, rfl⟩ := Option.map_eq_some_iff.mp second
  exact before

theorem scanDirectory_length : (scanDirectory start count s).length ≤ count := List.length_take_le ..

theorem scanDirectory_ascending : (scanDirectory start count s).Pairwise fun p q => p.1 < q.1 :=
  inUseFrom_ascending.sublist (List.take_sublist ..)

theorem mem_scanDirectory {r : RecordId} {x : Record} (found : (r, x) ∈ scanDirectory start count s) :
    start ≤ r.val ∧ s.record r = some x :=
  mem_inUseFrom.mp (List.mem_of_mem_take found)

/-- A record not reported stands behind a full report. -/
theorem scanDirectory_complete {r : RecordId} {x : Record} (after : start ≤ r.val) (held : s.record r = some x) :
    (r, x) ∈ scanDirectory start count s ∨
      ((scanDirectory start count s).length = count ∧ ∀ e ∈ scanDirectory start count s, e.1 < r) := by
  rw [scanDirectory_eq]
  have member : (r, x) ∈ inUseFrom start s := mem_inUseFrom.mpr ⟨after, held⟩
  have parts := List.take_append_drop count (inUseFrom start s)
  rw [← parts] at member
  obtain reported | behind := List.mem_append.mp member
  · exact .inl reported
  · refine .inr ⟨?_, fun e reported => ?_⟩
    · rw [List.length_take, Nat.min_eq_left]
      by_contra short
      rw [List.drop_eq_nil_of_le (by omega)] at behind
      exact List.not_mem_nil behind
    · exact inUseFrom_ascending.rel_of_mem_take_of_mem_drop reported behind

end

/-- The index from which the next READ-DIRECTORY goes on (R55). -/
def nextIndex (count : Nat) (found : List (RecordId × Record)) : Nat :=
  match found.getLast? with
  | some last => if found.length = count then last.1.val + 1 else 512
  | none => 512

theorem nextIndex_short {count : Nat} {found : List (RecordId × Record)} (short : found.length < count) :
    nextIndex count found = 512 := by
  unfold nextIndex
  split
  · exact if_neg (Nat.ne_of_lt short)
  · rfl

theorem nextIndex_full {count : Nat} {found : List (RecordId × Record)} (positive : 1 ≤ count)
    (full : found.length = count) : ∃ e, found.getLast? = some e ∧ nextIndex count found = e.1.val + 1 := by
  cases last : found.getLast? with
  | none =>
    rw [List.getLast?_eq_none_iff] at last
    subst last
    rw [List.length_nil] at full
    omega
  | some e =>
    refine ⟨e, rfl, ?_⟩
    rw [nextIndex, last]
    exact if_pos full

section
variable {body : List Byte} {s : State}

theorem readDirectory_illegal (illegal : 511 < field16 body 0 ∨ byteAt body 2 = 0 ∨ 16 < byteAt body 2) :
    readDirectory body s = refusedWith .badArgument s := if_pos illegal

theorem readDirectory_legal (start : field16 body 0 ≤ 511) (low : 1 ≤ byteAt body 2) (high : byteAt body 2 ≤ 16) :
    readDirectory body s =
      answerWith (bytes16 (nextIndex (byteAt body 2) (scanDirectory (field16 body 0) (byteAt body 2) s)) ++
        [byte (scanDirectory (field16 body 0) (byteAt body 2) s).length] ++
        (scanDirectory (field16 body 0) (byteAt body 2) s).flatMap fun e => recordBytes e.1 e.2) s :=
  if_neg (by omega)

end

/-- What READ-DIRECTORY reports of record `r`, which is `x`, with the values that stand for its standing and for its fields
that may be absent (R55). -/
def recordReport (r : RecordId) (x : Record) (standing admitted pending : Byte) (stamp : List Byte) : List Byte :=
  bytes16 r.val ++ bytes24 x.number.toNat ++ bytes48 x.serial.toNat ++
    [byte x.cls.val, byte x.faults, standing, admitted, pending] ++ stamp

theorem recordReport_fields (r : RecordId) (x : Record) {standing admitted pending : Byte} {stamp : List Byte}
    (standing_eq : byte x.standing.code = standing)
    (admitted_eq : byte ((x.admittedSlot.map SlotId.number).getD 0xFF) = admitted)
    (pending_eq : byte ((x.pendingSlot.map SlotId.number).getD 0xFF) = pending)
    (stamp_eq : optionalStamp x.lastSignOn = stamp) :
    recordBytes r x = recordReport r x standing admitted pending stamp := by
  subst standing_eq admitted_eq pending_eq stamp_eq
  unfold recordBytes recordReport optional8
  simp only [List.append_assoc, List.cons_append, List.nil_append]

/-! ### SET-STANDING -/

theorem exec_setStanding : ∀ (body : List Byte) (s : State),
    exec (.setStanding body) s = whileRunning (request 0x23 3 setStanding body) s := by
  intros; rfl

section
variable {body : List Byte} {s : State} {r : RecordId} {x : Record} {faults : Nat} {standing : Standing}

theorem setStandingOf_same (held : s.record r = some x) (same : x.standing = standing) :
    setStandingOf r faults standing s = s.withRecord r (some { x with faults := faults, standing := standing }) := by
  rw [setStandingOf, held]
  exact if_pos same

theorem setStandingOf_changed (held : s.record r = some x) (changed : x.standing ≠ standing) :
    setStandingOf r faults standing s = post .standingChanged none none (some r) (byte standing.code)
      (s.withRecord r (some { x with faults := faults, standing := standing })) := by
  rw [setStandingOf, held]
  exact if_neg changed

theorem setStandingOf_slot (i : SlotId) : (setStandingOf r faults standing s).slot i = s.slot i := by
  cases held : s.record r with
  | none => rw [setStandingOf, held]
  | some x =>
    by_cases same : x.standing = standing
    · rw [setStandingOf_same held same, slot_withRecord]
    · rw [setStandingOf_changed held same, slot_post, slot_withRecord]

theorem setStandingOf_record (held : s.record r = some x) (q : RecordId) :
    (setStandingOf r faults standing s).record q =
      if r = q then some { x with faults := faults, standing := standing } else s.record q := by
  by_cases same : x.standing = standing
  · rw [setStandingOf_same held same, record_withRecord]
  · rw [setStandingOf_changed held same, record_post, record_withRecord]

theorem setStanding_illegal (illegal : 511 < field16 body 0 ∨ 1 < byteAt body 2) :
    setStanding body s = refusedWith .badArgument s := by
  unfold setStanding
  split
  · rfl
  next q index =>
    have low : ¬511 < field16 body 0 := fun high => by simp [indexOf_eq_none_of_le (size := 512) high] at index
    exact if_pos (by tauto)

theorem setStanding_free (index : field16 body 0 = r.val) (legal : byteAt body 2 ≤ 1) (free : s.record r = none) :
    setStanding body s = refusedWith .notFound s := by
  rw [setStanding, indexOf_of_eq_val index]
  dsimp only
  rw [if_neg legal.not_gt, free]

theorem setStanding_reinstates (index : field16 body 0 = r.val) (held : s.record r = some x)
    (standing : byteAt body 2 = 0) : setStanding body s = ok (setStandingOf r 0 .good s) := by
  rw [setStanding, indexOf_of_eq_val index]
  dsimp only
  rw [if_neg (by omega), held]
  exact if_pos standing

theorem setStanding_bars (index : field16 body 0 = r.val) (held : s.record r = some x)
    (standing : byteAt body 2 = 1) : setStanding body s = ok (barRecord r (setStandingOf r 255 .barred s)) := by
  rw [setStanding, indexOf_of_eq_val index]
  dsimp only
  rw [if_neg (by omega), held]
  exact if_neg (by omega)

end

/-! ### Messages and tones at one slot -/

section
variable {s : State} {i j : SlotId}

theorem enqueue_slot_other (m : HandsetMessage) (other : j ≠ i) : (enqueue i m s).slot j = s.slot j := by
  obtain ⟨-, same⟩ | ⟨-, -, joined⟩ | ⟨-, -, lost⟩ := enqueue_cases i m s
  · rw [same]
  · rw [joined, slot_onSlot, if_neg other.symm]
  · rw [lost, slot_post]

theorem enqueue_slot_self (m : HandsetMessage) :
    (enqueue i m s).slot i = { s.slot i with txQueue := ((enqueue i m s).slot i).txQueue } := by
  obtain ⟨-, same⟩ | ⟨-, -, joined⟩ | ⟨-, -, lost⟩ := enqueue_cases i m s
  · rw [same]
  · rw [joined, slot_onSlot, if_pos rfl]
  · rw [lost, slot_post]

theorem requestFunction_slot_other (f : ToneFunction) (other : j ≠ i) :
    (requestFunction f i s).slot j = s.slot j := by
  obtain same | ⟨d, x, -, -, -, asked⟩ := requestFunction_cases f i s
  · rw [same]
  · rw [asked, slot_withSlot_of_ne s other.symm]

theorem requestFunction_slot_self (f : ToneFunction) : (requestFunction f i s).slot i =
    { s.slot i with
      tone := ((requestFunction f i s).slot i).tone, pendingTone := ((requestFunction f i s).slot i).pendingTone } := by
  obtain same | ⟨d, x, -, -, -, asked⟩ := requestFunction_cases f i s
  · rw [same]
  · rw [asked, slot_withSlot_self]
    obtain ⟨t, outcome, -⟩ | outcome | outcome | outcome := requestTone_cases (s.slot i) d x <;> rw [outcome]

/-- A notice and a tone asked for together (R48, R164). -/
theorem noticed_of_notice (n : Notice) (f : ToneFunction) (i : SlotId) (u : State) :
    Noticed i n.code (u.tones.functions.entry f) u (requestFunction f i (enqueue i (noticeMessage n) u)) := by
  have kept : ((enqueue i (noticeMessage n) u).slot i).tone = (u.slot i).tone ∧
      ((enqueue i (noticeMessage n) u).slot i).pendingTone = (u.slot i).pendingTone ∧
      ((enqueue i (noticeMessage n) u).slot i).kind = (u.slot i).kind := by
    rw [enqueue_slot_self]
    exact ⟨rfl, rfl, rfl⟩
  obtain ⟨toneKept, pendingKept, kindKept⟩ := kept
  have queueKept : ((requestFunction f i (enqueue i (noticeMessage n) u)).slot i).txQueue =
      ((enqueue i (noticeMessage n) u).slot i).txQueue := by rw [requestFunction_slot_self]
  constructor
  case rest =>
    rw [requestFunction_eq, requestFunction_eq f i (enqueue i (noticeMessage n) u), enqueue_eq]
  case others =>
    intro j other
    rw [requestFunction_slot_other f other, enqueue_slot_other _ other]
  case slot =>
    rw [queueKept]
    refine (requestFunction_slot_self f).trans ?_
    rw [enqueue_slot_self]
  case deaf =>
    intro deaf
    rw [enqueue_deaf deaf]
    exact requestFunction_silent fun _ _ _ _ => deaf
  case queued =>
    intro kind room
    rw [queueKept, requestFunction_events, enqueue_room kind room, slot_onSlot, if_pos rfl]
    exact ⟨rfl, rfl⟩
  case full =>
    intro kind full
    rw [queueKept, requestFunction_events, enqueue_full kind full, slot_post]
    exact ⟨rfl, rfl⟩
  case silent =>
    intro silent
    rw [requestFunction_silent fun d _ entry => by rw [enqueue_tones, silent] at entry; cases entry]
    exact ⟨toneKept, pendingKept⟩
  case played =>
    intro d x entry loaded kind idle
    have idle' : ((enqueue i (noticeMessage n) u).slot i).tone = none := toneKept.trans idle
    rw [requestFunction_asked (by rw [enqueue_tones]; exact entry) (by rw [enqueue_tones]; exact loaded)
      (kindKept.trans kind), slot_withSlot_self, requestTone_idle idle']
    rfl

/-- The refusal hold that the state's timers give a refused slot (R66). -/
def Slot.held (hold : Nat) (r : Slot) : Slot :=
  if hold = 0 then { r with admission := .locked, refusalHold := none }
  else { r with admission := .hold, refusalHold := some { elapsed := 0, due := false } }

theorem held_fields (hold : Nat) (r : Slot) : r.held hold = { r with
    admission := if hold = 0 then .locked else .hold
    refusalHold := if hold = 0 then none else some { elapsed := 0, due := false } } := by
  unfold Slot.held
  split <;> rfl

theorem concludeRefusal_eq (i : SlotId) (reason : Reason) (index : Option RecordId) (s : State) :
    concludeRefusal i reason index s = post .signOnRefused (some i) none index reason.code
      (requestFunction .refused i (onSlot i (Slot.held s.timers.refusalHold) (enqueue i (refusedMessage reason) s))) :=
  rfl

/-- Steps 3 to 6 of a refusal (R66). -/
theorem concludeRefusal_refused (i : SlotId) (reason : Reason) (index : Option RecordId) (u : State) :
    Refused i reason index u (concludeRefusal i reason index u) := by
  have slot : (concludeRefusal i reason index u).slot i = (requestFunction .refused i
      (onSlot i (Slot.held u.timers.refusalHold) (enqueue i (refusedMessage reason) u))).slot i := by
    rw [concludeRefusal_eq, slot_post]
  have queue : ((concludeRefusal i reason index u).slot i).txQueue =
      ((enqueue i (refusedMessage reason) u).slot i).txQueue := by
    rw [slot, requestFunction_slot_self, slot_onSlot, if_pos rfl, held_fields]
  have events {v : State} (same : (enqueue i (refusedMessage reason) u).events = v.events) (clock : v.clock = u.clock) :
      (concludeRefusal i reason index u).events =
        (post .signOnRefused (some i) none index reason.code v).events := by
    refine post_events_congr _ _ _ _ _ ?_ ?_
    · rw [requestFunction_events]
      exact same
    · rw [requestFunction_clock, clock]
      exact enqueue_clock ..
  constructor
  case rest =>
    rw [concludeRefusal_eq, post_eq, requestFunction_eq, enqueue_eq]
    rfl
  case others =>
    intro j other
    rw [concludeRefusal_eq, slot_post, requestFunction_slot_other _ other, slot_onSlot, if_neg other.symm,
      enqueue_slot_other _ other]
  case slot =>
    rw [queue, slot]
    refine (requestFunction_slot_self _).trans ?_
    rw [slot_onSlot, if_pos rfl, held_fields, enqueue_slot_self]
  case queued =>
    intro kind room
    rw [queue, enqueue_room kind room, slot_onSlot, if_pos rfl]
    refine ⟨rfl, events ?_ rfl⟩
    rw [enqueue_room kind room]
    rfl
  case full =>
    intro kind full
    rw [queue, enqueue_full kind full, slot_post]
    refine ⟨rfl, events ?_ (post_clock ..)⟩
    rw [enqueue_full kind full]
    rfl

end

/-! What becomes of a record that is barred, and of the slots it names (R78). -/

theorem record_onSlot (i : SlotId) (f : Slot → Slot) (s : State) (r : RecordId) :
    (onSlot i f s).record r = s.record r := rfl

theorem concludeRefusal_record (i : SlotId) (reason : Reason) (index : Option RecordId) (s : State) (r : RecordId) :
    (concludeRefusal i reason index s).record r = s.record r := by
  rw [concludeRefusal, record_post, record_requestFunction, record_onSlot, record_enqueue]

theorem record_clearPending (i : SlotId) (s : State) (r : RecordId) : (clearPending i s).record r = s.record r ∨
    (clearPending i s).record r = (s.record r).map fun x => { x with pendingSlot := none } := by
  rw [clearPending_eq]
  cases pendingRecord i s with
  | none => exact .inl rfl
  | some q =>
    simp only [Option.elim_some, record_onRecord]
    split
    next same => exact .inr (same ▸ rfl)
    · exact .inl rfl

/-- What a refusal clears of a sign-on in progress (step 1 of R66). -/
theorem stopSignOn_signing {i : SlotId} {s : State} (signing : (s.slot i).signingOn = true) :
    stopSignOn i s = onSlot i (fun r => { r with responseTimer := none, challenge := none })
      (clearPending i (withdraw (Job.isVerifyOf i) s)) := if_pos signing

theorem stopSignOn_record (i : SlotId) (s : State) (r : RecordId) : (stopSignOn i s).record r = s.record r ∨
    (stopSignOn i s).record r = (s.record r).map fun x => { x with pendingSlot := none } := by
  cases signing : (s.slot i).signingOn with
  | false => exact .inl (by rw [stopSignOn_idle signing])
  | true =>
    have cleared := record_clearPending i (withdraw (Job.isVerifyOf i) s) r
    rw [record_withdraw] at cleared
    rwa [stopSignOn_signing signing, record_onSlot]

theorem refusePending_record (r q : RecordId) (s : State) : (refusePending r s).record q = s.record q ∨
    (refusePending r s).record q = (s.record q).map fun x => { x with pendingSlot := none } := by
  unfold refusePending
  split
  next p _ =>
    rw [concludeRefusal_record]
    exact stopSignOn_record p s q
  · exact .inl rfl

/-- A record once barred keeps all but the slots it names. -/
theorem barRecord_record {r q : RecordId} {x : Record} {s : State} (held : s.record q = some x) :
    ∃ y, (barRecord r s).record q = some y ∧ y.faults = x.faults ∧ y.standing = x.standing ∧
      (y.pendingSlot = none ∨ y.pendingSlot = x.pendingSlot) ∧
      (y.admittedSlot = none ∨ y.admittedSlot = x.admittedSlot) := by
  obtain ⟨z, refused, faults, standing, pending, admitted⟩ : ∃ z, (refusePending r s).record q = some z ∧
      z.faults = x.faults ∧ z.standing = x.standing ∧ (z.pendingSlot = none ∨ z.pendingSlot = x.pendingSlot) ∧
      z.admittedSlot = x.admittedSlot := by
    obtain kept | cleared := refusePending_record r q s
    · exact ⟨x, kept.trans held, rfl, rfl, .inr rfl, rfl⟩
    · rw [held] at cleared
      exact ⟨_, cleared, rfl, rfl, .inl rfl, rfl⟩
  rw [barRecord_eq]
  split
  next a _ =>
    obtain kept | released := signOffSlot_record_cases .barred a (refusePending r s) q
    · exact ⟨z, kept.trans refused, faults, standing, pending, .inr admitted⟩
    · rw [refused] at released
      exact ⟨_, released, faults, standing, pending, .inl rfl⟩
  · exact ⟨z, refused, faults, standing, pending, .inr admitted⟩

section
variable {s : State} {r : RecordId} {x : Record}

theorem stopSignOn_slot_other {i j : SlotId} (other : j ≠ i) : (stopSignOn i s).slot j = s.slot j := by
  cases signing : (s.slot i).signingOn with
  | false => rw [stopSignOn_idle signing]
  | true => rw [stopSignOn_signing signing, slot_onSlot, if_neg other.symm, slot_clearPending, slot_withdraw]

/-- The slot of the pending sign-on is signing on no more; any other stands. -/
theorem refusePending_slot_other {a : SlotId} (other : (s.record r).bind Record.pendingSlot ≠ some a) :
    (refusePending r s).slot a = s.slot a := by
  unfold refusePending
  split
  next p pending =>
    have apart : a ≠ p := fun same => other (same ▸ pending)
    rw [(concludeRefusal_refused p .barred (some r) _).others a apart, stopSignOn_slot_other apart]
  · rfl

theorem refused_admission {i : SlotId} {reason : Reason} {index : Option RecordId} {u t : State}
    (refused : Refused i reason index u t) : (t.slot i).admission = .locked ∨ (t.slot i).admission = .hold := by
  have admission := congrArg Slot.admission refused.slot
  dsimp only at admission
  split at admission
  · exact .inl admission
  · exact .inr admission

theorem signingOn_of_out {x : Slot} (out : x.admission = .locked ∨ x.admission = .hold) : x.signingOn = false := by
  obtain out | out := out <;> rw [Slot.signingOn, out] <;> rfl

theorem refusePending_slot_self {p : SlotId} (pending : (s.record r).bind Record.pendingSlot = some p) :
    ((refusePending r s).slot p).admission = .locked ∨ ((refusePending r s).slot p).admission = .hold := by
  rw [refusePending, pending]
  exact refused_admission (concludeRefusal_refused p .barred (some r) _)

theorem refusePending_record_self {p : SlotId} (held : s.record r = some x) (pending : x.pendingSlot = some p)
    (signing : (s.slot p).signingOn = true)
    (alone : ∀ q z, s.record q = some z → z.pendingSlot = some p → q = r) :
    (refusePending r s).record r = some { x with pendingSlot := none } := by
  have found : pendingRecord p (withdraw (Job.isVerifyOf p) s) = some r :=
    pendingRecord_of_unique (s := withdraw (Job.isVerifyOf p) s) held pending alone
  have named : (s.record r).bind Record.pendingSlot = some p := by rw [held]; exact pending
  rw [refusePending, named]
  dsimp only
  rw [concludeRefusal_record, stopSignOn_signing signing, record_onSlot, clearPending_eq, found, Option.elim_some,
    record_onRecord, if_pos rfl, record_withdraw, held, Option.map_some]

theorem Slot.Follows.admission {x y : Slot} (follows : x.Follows y) : y.admission = x.admission := by rw [follows.rest]

theorem signOffSlot_out {cause : SignOffCause} {a p : SlotId}
    (out : (s.slot p).admission = .locked ∨ (s.slot p).admission = .hold) :
    ((signOffSlot cause a s).slot p).admission = .locked ∨ ((signOffSlot cause a s).slot p).admission = .hold := by
  by_cases same : p = a
  · subst same
    have outside : (s.slot p).isAdmitted = false := by
      obtain out | out := out <;> rw [Slot.isAdmitted, out] <;> rfl
    rwa [signOffSlot_not_admitted outside]
  · rwa [(signOffSlot_slot_other cause same).admission]

/-- Barring ends the sign-on pending under the record (R78). -/
theorem barRecord_pending {p : SlotId} (held : s.record r = some x) (pending : x.pendingSlot = some p)
    (signing : (s.slot p).signingOn = true)
    (alone : ∀ q z, s.record q = some z → z.pendingSlot = some p → q = r) :
    ((barRecord r s).slot p).signingOn = false ∧
      ∀ y, (barRecord r s).record r = some y → y.pendingSlot = none := by
  have named : (s.record r).bind Record.pendingSlot = some p := by rw [held]; exact pending
  have cleared := refusePending_record_self held pending signing alone
  have out := refusePending_slot_self named
  rw [barRecord_eq]
  split
  next a _ =>
    refine ⟨signingOn_of_out (signOffSlot_out out), fun y released => ?_⟩
    obtain kept | gone := signOffSlot_record_cases .barred a (refusePending r s) r
    · rw [kept, cleared] at released
      cases released
      rfl
    · rw [gone, cleared] at released
      cases released
      rfl
  · refine ⟨signingOn_of_out out, fun y released => ?_⟩
    rw [cleared] at released
    cases released
    rfl

/-- Barring ends the admission of the record (R78). -/
theorem barRecord_admitted {a : SlotId} (held : s.record r = some x) (named : x.admittedSlot = some a)
    (apart : x.pendingSlot ≠ some a) (admitted : (s.slot a).isAdmitted = true)
    (bound : (s.slot a).boundIndex = some r) :
    ((barRecord r s).slot a).admission = .locked ∧
      ∀ y, (barRecord r s).record r = some y → y.admittedSlot = none := by
  have other : (s.record r).bind Record.pendingSlot ≠ some a := by rw [held]; exact apart
  have slot := refusePending_slot_other other
  have admittedSlot : ((refusePending r s).record r).bind Record.admittedSlot = some a := by
    obtain kept | cleared := refusePending_record r r s
    · rw [kept, held]
      exact named
    · rw [cleared, held]
      exact named
  rw [barRecord_eq, admittedSlot]
  have still : ((refusePending r s).slot a).isAdmitted = true := by rw [slot]; exact admitted
  refine ⟨signOffSlot_locked .barred still, fun y released => ?_⟩
  dsimp only at released
  rw [signOffSlot_record .barred still, slot, if_pos bound] at released
  obtain ⟨z, -, rfl⟩ := Option.map_eq_some_iff.mp released
  rfl

end

/-- Settles O54: READ-DIRECTORY by `scanDirectory`'s lemmas, and SET-STANDING by what barring does (R80). -/
theorem directoryIsReadAndJudged : Obligations.DirectoryIsReadAndJudged := by
  intro s accepts
  simp only [exec_readDirectory, exec_setStanding]
  refine ⟨fun body length => ⟨fun illegal => whileRunning_request_refused accepts length (readDirectory_illegal illegal),
      fun start low high => ?_⟩,
    fun body length => ⟨fun illegal => whileRunning_request_refused accepts length (setStanding_illegal illegal),
      fun r index legal free => whileRunning_request_refused accepts length
        (setStanding_free (s := huntPort s) index legal free)⟩,
    fun r x body length index held => ⟨fun standing same => ?_, fun standing changed => ?_, fun standing => ?_⟩⟩
  · refine ⟨scanDirectory (field16 body 0) (byteAt body 2) s,
      nextIndex (byteAt body 2) (scanDirectory (field16 body 0) (byteAt body 2) s), ?_, scanDirectory_length,
      scanDirectory_ascending, fun r x => mem_scanDirectory, fun r x => scanDirectory_complete, nextIndex_short,
      nextIndex_full low⟩
    refine whileRunning_request_answer accepts length ((readDirectory_legal (s := huntPort s) start low high).trans ?_)
    refine congrArg (fun bytes => answerWith (_ ++ bytes) (huntPort s)) (List.flatMap_congr fun e _ => ?_)
    refine recordReport_fields e.1 e.2 ?_ ?_ ?_ ?_
    · cases e.2.standing <;> rfl
    · cases e.2.admittedSlot <;> rfl
    · cases e.2.pendingSlot <;> rfl
    · cases e.2.lastSignOn <;> rfl
  · refine whileRunning_request_ok accepts length
      ((setStanding_reinstates (s := huntPort s) index held standing).trans ?_)
    rw [setStandingOf_same (s := huntPort s) held same]
    rfl
  · refine whileRunning_request_blind (f := fun s => post .standingChanged none none (some r) 0
      (s.withRecord r (some { x with faults := 0, standing := .good }))) accepts length
      (fun p s => post_portBlind _ _ _ _ _ p (s.withRecord r _))
      ((setStanding_reinstates (s := huntPort s) index held standing).trans ?_)
    rw [setStandingOf_changed (s := huntPort s) held changed]
    rfl
  · have record : (setStandingOf r 255 .barred s).record r = some { x with faults := 255, standing := .barred } := by
      rw [setStandingOf_record held, if_pos rfl]
    obtain ⟨y, written, faults, barred, -, -⟩ := barRecord_record (r := r) record
    refine ⟨barRecord r (setStandingOf r 255 .barred s), y, ?_, written,
      ((setStandingOf_spares s ..).trans (barRecord_spares _ r)).eq, faults, barred, ?_, ?_⟩
    · exact whileRunning_request_blind accepts length
        ((setStandingOf_portBlind r 255 .barred).comp (barRecord_portBlind r))
        (setStanding_bars (s := huntPort s) index held standing)
    · intro a named apart admitted bound
      rw [← setStandingOf_slot (r := r) (faults := 255) (standing := .barred)] at admitted bound
      obtain ⟨locked, released⟩ := barRecord_admitted record named apart admitted bound
      exact ⟨locked, released y written⟩
    · intro p pending signing alone
      rw [← setStandingOf_slot (r := r) (faults := 255) (standing := .barred)] at signing
      obtain ⟨ended, cleared⟩ := barRecord_pending record pending signing fun q z other named => by
        rw [setStandingOf_record held] at other
        split at other
        next same => exact same.symm
        · exact alone q z other named
      exact ⟨ended, cleared y written⟩

/-! ### OPEN-PRIVACY -/

theorem exec_openPrivacy : ∀ (body : List Byte) (s : State),
    exec (.openPrivacy body) s = whileRunning (request 0x42 14 openPrivacy body) s := by
  intros; rfl

/-! The fields of the body (R103). -/

theorem segmentOf_some {v n : Nat} (legal : (v = 0xFF ∧ n = 16) ∨ (v = n ∧ (n = 8 ∨ n = 16 ∨ n = 32))) :
    segmentOf v = some n := by
  obtain ⟨default, rfl⟩ | ⟨rfl, known⟩ := legal
  · exact if_pos default
  · rw [segmentOf, if_neg (by omega), if_pos known]

theorem segmentOf_eq_none {v : Nat}
    (illegal : ∀ n, ¬((v = 0xFF ∧ n = 16) ∨ (v = n ∧ (n = 8 ∨ n = 16 ∨ n = 32)))) : segmentOf v = none := by
  have notDefault : v ≠ 0xFF := fun default => illegal 16 (.inl ⟨default, rfl⟩)
  have unknown : ¬(v = 8 ∨ v = 16 ∨ v = 32) := fun known => illegal v (.inr ⟨rfl, known⟩)
  rw [segmentOf, if_neg notDefault, if_neg unknown]

theorem maskingOf_some {v : Nat} {b : Bool} (legal : (b = true ∧ (v = 0xFF ∨ v = 1)) ∨ (b = false ∧ v = 0)) :
    maskingOf v = some b := by
  obtain ⟨rfl, on⟩ | ⟨rfl, off⟩ := legal
  · exact if_pos on
  · rw [maskingOf, if_neg (by omega), if_pos off]

theorem maskingOf_eq_none {v : Nat}
    (illegal : ∀ b : Bool, ¬((b = true ∧ (v = 0xFF ∨ v = 1)) ∨ (b = false ∧ v = 0))) : maskingOf v = none := by
  have notOn : ¬(v = 0xFF ∨ v = 1) := fun on => illegal true (.inl ⟨rfl, on⟩)
  have notOff : ¬v = 0 := fun off => illegal false (.inr ⟨rfl, off⟩)
  rw [maskingOf, if_neg notOn, if_neg notOff]

/-- The profile that a legal body gives (R103). -/
structure Profiles (body : List Byte) (p : Profile) : Prop where
  segment : (byteAt body 3 = 0xFF ∧ p.segment = 16) ∨
    (byteAt body 3 = p.segment ∧ (p.segment = 8 ∨ p.segment = 16 ∨ p.segment = 32))
  masking : (p.masking = true ∧ (byteAt body 4 = 0xFF ∨ byteAt body 4 = 1)) ∨
    (p.masking = false ∧ byteAt body 4 = 0)
  presync : p.presync = profileField 0xFF 2 1 4 (byteAt body 5)
  flywheel : p.flywheel = profileField 0xFF 4 1 15 (byteAt body 6)
  huntLimit : p.huntLimit = profileField 0xFFFFFF 40000 4000 240000 (field24 body 7)
  clearGuard : p.clearGuard = profileField 0xFFFF 6400 800 16000 (field16 body 10)
  rekeyInterval : p.rekeyInterval = profileField 0xFFFF 0 0 1440 (field16 body 12)

theorem profileOf_eq {body : List Byte} {p : Profile} (profiles : Profiles body p) : profileOf body = some p := by
  obtain ⟨segment, masking, presync, flywheel, huntLimit, clearGuard, rekeyInterval⟩ := profiles
  unfold profileOf
  rw [segmentOf_some segment, maskingOf_some masking]
  dsimp only
  rw [← presync, ← flywheel, ← huntLimit, ← clearGuard, ← rekeyInterval]

section
variable {s : State} {body : List Byte} {tie ext : SlotId} {site : SiteId} {p : Profile} {c : ContextId}

theorem openPrivacy_illegal (illegal : slotOf (byteAt body 0) = none ∨ slotOf (byteAt body 1) = none ∨
    indexOf 32 (byteAt body 2) = none ∨ profileOf body = none) : openPrivacy body s = refusedWith .badArgument s := by
  unfold openPrivacy
  split
  next tie ext site p tieNamed extNamed siteNamed profile =>
    rw [tieNamed, extNamed, siteNamed, profile] at illegal
    simp at illegal
  · rfl

/-- A body that names two slots, a site and a profile. -/
structure Names (body : List Byte) (tie ext : SlotId) (site : SiteId) (p : Profile) : Prop where
  tie : byteAt body 0 = tie.number
  ext : byteAt body 1 = ext.number
  site : byteAt body 2 = site.val
  profile : Profiles body p

theorem openPrivacy_named (names : Names body tie ext site p) (s : State) : openPrivacy body s =
    match judgeOpen tie ext site s with
    | .error detail => { status := .policy, body := [detail.code], state := s }
    | .ok o => answerWith [byte o.context.val] (openContext tie ext site p o s) := by
  rw [openPrivacy, slotOf_of_eq_number names.tie, slotOf_of_eq_number names.ext, indexOf_of_eq_val names.site,
    profileOf_eq names.profile] <;> rfl

theorem openPrivacy_policy {detail : PolicyDetail} (names : Names body tie ext site p)
    (refused : judgeOpen tie ext site s = .error detail) :
    openPrivacy body s = { status := .policy, body := [detail.code], state := s } := by
  rw [openPrivacy_named names, refused]

theorem openPrivacy_opens {o : Opening} (names : Names body tie ext site p)
    (judged : judgeOpen tie ext site s = .ok o) :
    openPrivacy body s = answerWith [byte o.context.val] (openContext tie ext site p o s) := by
  rw [openPrivacy_named names, judged]

/-! The policy checks, in the order of R104. -/

theorem judgeOpen_full (full : ∀ d, (s.context d).isSome) : judgeOpen tie ext site s = .error .full := by
  have none : lowestFree s = none := List.find?_eq_none.mpr fun d _ free => by
    rw [Option.isNone_iff_eq_none] at free
    simpa [free] using full d
  rw [judgeOpen, none]

theorem lowestFree_eq (free : s.context c = none) (least : ∀ d, d < c → (s.context d).isSome) :
    lowestFree s = some c := by
  refine List.find?_eq_some_iff_getElem.mpr ⟨by rw [free]; rfl, c.val, ?_, ?_, fun d before => ?_⟩
  · simp [contextIds]
  · simp [contextIds]
  · have held := least ⟨d, before.trans c.isLt⟩ (Fin.lt_def.mpr before)
    simp [contextIds]
    simpa [Option.isSome_iff_ne_none] using held

theorem judgeOpen_tieBusy (free : lowestFree s = some c)
    (busy : (s.slot tie).kind ≠ .tie ∨ (s.slot tie).boundContext.isSome) :
    judgeOpen tie ext site s = .error .tieBusy := by
  rw [judgeOpen, free]
  exact if_pos busy

/-- The tie slot is free for a context. -/
structure TieFree (tie : SlotId) (s : State) : Prop where
  kind : (s.slot tie).kind = .tie
  unbound : (s.slot tie).boundContext = none

theorem TieFree.passes (ready : TieFree tie s) : ¬((s.slot tie).kind ≠ .tie ∨ (s.slot tie).boundContext.isSome) := by
  rw [ready.kind, ready.unbound]
  simp

theorem judgeOpen_notAdmitted (free : lowestFree s = some c) (ready : TieFree tie s)
    (out : (s.slot ext).kind ≠ .extension ∨ (s.slot ext).admission ≠ .admitted ∨ (s.slot ext).visitor = true) :
    judgeOpen tie ext site s = .error .notAdmitted := by
  rw [judgeOpen, free]
  exact (if_neg ready.passes).trans (if_pos out)

/-- The extension slot is admitted under a record that is in use. -/
structure Member (ext : SlotId) (r : RecordId) (x : Record) (n : ExtensionNumber) (k : ClassId) (s : State) : Prop where
  kind : (s.slot ext).kind = .extension
  admitted : (s.slot ext).admission = .admitted
  visitor : (s.slot ext).visitor = false
  index : (s.slot ext).boundIndex = some r
  number : (s.slot ext).number = some n
  cls : (s.slot ext).admissionClass = some k
  record : s.record r = some x

variable {r : RecordId} {x : Record} {n : ExtensionNumber} {k : ClassId}

/-- The checks that follow for an admitted member (R104). -/
theorem judgeOpen_member (free : lowestFree s = some c) (ready : TieFree tie s) (member : Member ext r x n k s) :
    judgeOpen tie ext site s =
      if x.standing != .good then .error .standing
      else if ((s.classRecord k).privacy && (s.classRecord k).inBand) = false then .error .cls
      else if (s.sites[site]).isNone then .error .site
      else if 4 ≤ (s.slot ext).partners.length then .error .partners
      else .ok { context := c, index := r, number := n } := by
  have admitted : ¬((s.slot ext).kind ≠ .extension ∨ (s.slot ext).admission ≠ .admitted ∨
      (s.slot ext).visitor = true) := by
    rw [member.kind, member.admitted, member.visitor]
    simp
  unfold judgeOpen
  rw [free]
  dsimp only
  rw [if_neg ready.passes, if_neg admitted, member.index, member.number, member.cls]
  dsimp only
  rw [member.record]
  rfl

theorem postJob_withSlots (j : Job) (e : Engine) (c : ContextId) (o : Option Context) (tie ext : SlotId) (a b : Slot)
    (s : State) : postJob j ((((s.withEngine e).withContext c o).withSlot tie a).withSlot ext b) =
      (((s.withEngine (e.post j)).withContext c o).withSlot tie a).withSlot ext b := rfl

/-- An opened context, with its bindings and its TX-KEY posted (R105). -/
theorem openContext_eq (apart : tie ≠ ext) (o : Opening) (p : Profile) (s : State) :
    openContext tie ext site p o s =
      (((s.withEngine (Engine.post (.txKey o.context site (drawnNonce s) 0)
        { s.engine with nonce := drawnNonce s })).withContext o.context
          (some (openedContext tie ext site p o (drawnNonce s) s))).withSlot tie
            { s.slot tie with boundContext := some o.context }).withSlot ext
              { s.slot ext with partners := (s.slot ext).partners ++ [o.context] } := by
  unfold openContext
  rw [drawNonce_eq]
  dsimp only
  unfold onSlot
  rw [slot_withSlot_of_ne _ apart, withEngine_engine, slot_withContext, slot_withContext, slot_withEngine, slot_withEngine,
    postJob_withSlots]

end

/-- Settles O57: R104's checks in order, and R105's context. -/
theorem openPrivacyOpensAContext : Obligations.OpenPrivacyOpensAContext := by
  intro body s accepts length
  simp only [exec_openPrivacy]
  refine ⟨fun illegal => ?_, fun tie ext site p tieNamed extNamed siteNamed segment masking presync flywheel huntLimit
    clearGuard rekeyInterval => ?_⟩
  · refine whileRunning_request_refused accepts length (openPrivacy_illegal ?_)
    have unprofiled (illegal : segmentOf (byteAt body 3) = none ∨ maskingOf (byteAt body 4) = none) :
        profileOf body = none := by
      unfold profileOf
      split
      next segment masking => rw [segment, masking] at illegal; simp at illegal
      · rfl
    obtain zero | high | zero | high | high | segment | masking := illegal
    · exact .inl (slotOf_eq_none (.inl zero))
    · exact .inl (slotOf_eq_none (.inr high))
    · exact .inr (.inl (slotOf_eq_none (.inl zero)))
    · exact .inr (.inl (slotOf_eq_none (.inr high)))
    · exact .inr (.inr (.inl (indexOf_eq_none_of_le high)))
    · exact .inr (.inr (.inr (unprofiled (.inl (segmentOf_eq_none segment)))))
    · exact .inr (.inr (.inr (unprofiled (.inr (maskingOf_eq_none masking)))))
  have names : Names body tie ext site p := ⟨tieNamed, extNamed, siteNamed,
    ⟨segment, masking, presync, flywheel, huntLimit, clearGuard, rekeyInterval⟩⟩
  have policy {detail : PolicyDetail} (refused : judgeOpen tie ext site (huntPort s) = .error detail) :
      whileRunning (request 0x42 14 openPrivacy body) s = .next (answered 0x42 .policy [detail.code] s) :=
    whileRunning_request_of_accepts accepts length (openPrivacy_policy names refused)
  refine ⟨fun full => policy (judgeOpen_full (s := huntPort s) full), fun c free least => ?_⟩
  have lowest : lowestFree (huntPort s) = some c := lowestFree_eq (s := huntPort s) free least
  refine ⟨fun busy => policy (judgeOpen_tieBusy lowest busy), fun tieKind unbound => ?_⟩
  have ready : TieFree tie (huntPort s) := ⟨tieKind, unbound⟩
  refine ⟨fun out => policy (judgeOpen_notAdmitted lowest ready out),
    fun r x n k extKind admitted visitor index number cls record => ?_⟩
  have member : Member ext r x n k (huntPort s) := ⟨extKind, admitted, visitor, index, number, cls, record⟩
  have judged := judgeOpen_member (site := site) lowest ready member
  refine ⟨fun bad => policy (detail := .standing) ?_, fun good barredClass => policy (detail := .cls) ?_, fun good privacy inBand =>
    ⟨fun empty => policy (detail := .site) ?_, fun known full => policy (detail := .partners) ?_, fun known room => ?_⟩⟩
  · rw [judged, if_pos (bne_iff_ne.mpr bad)]
  · rw [judged, if_neg (by rw [good]; decide), if_pos ?_]
    obtain off | off := barredClass
    · rw [classRecord_huntPort, off, Bool.false_and]
    · rw [classRecord_huntPort, off, Bool.and_false]
  all_goals
    have allowed : ¬(((huntPort s).classRecord k).privacy && ((huntPort s).classRecord k).inBand) = false := by
      rw [classRecord_huntPort, privacy, inBand]
      decide
    rw [if_neg (by rw [good]; decide), if_neg allowed] at judged
  · rw [judged]
    exact if_pos (Option.isNone_iff_eq_none.mpr empty)
  · have occupied : ¬((huntPort s).sites[site]).isNone = true := by
      rw [Bool.not_eq_true, Option.isNone_eq_false_iff]
      exact known
    rw [judged, if_neg occupied]
    exact if_pos full
  · have occupied : ¬((huntPort s).sites[site]).isNone = true := by
      rw [Bool.not_eq_true, Option.isNone_eq_false_iff]
      exact known
    rw [if_neg occupied] at judged
    have opens : judgeOpen tie ext site (huntPort s) = .ok { context := c, index := r, number := n } :=
      judged.trans (if_neg room.not_ge)
    have apart : tie ≠ ext := fun same => by rw [← same, tieKind] at extKind; cases extKind
    refine ⟨openedContext tie ext site p { context := c, index := r, number := n } (drawnNonce s) s, ?_,
      rfl, rfl, rfl, rfl, rfl, rfl, rfl, rfl, rfl, rfl, rfl, rfl, rfl, rfl, rfl, rfl, rfl, rfl, rfl, rfl, rfl, rfl, rfl,
      rfl⟩
    refine whileRunning_request_answer accepts length ((openPrivacy_opens names opens).trans ?_)
    rw [openContext_eq apart]
    rfl

end Sys2Proof.Machine
end

section
/-! PROOFS. A slot's filter, transmitter and player, and the messages of a handset whose sign-on is judged: STATUS-QUERY,
SIGN-ON challenged, admitted as a visitor or refused, RESPONSE and SIGN-OFF. -/

namespace Sys2Proof.Machine

open Sys2Proof.Safety

/-! ### The filter -/

section
variable {r : Slot} {x : Nibble}

theorem filter_unfiltered (length : r.filterLength = 0) :
    r.filter x = { r with filtered := x, candidate := x, persistence := 0 } := if_pos length

theorem filter_abandons (length : 0 < r.filterLength) (same : x = r.filtered) :
    r.filter x = { r with candidate := x, persistence := 0 } :=
  (if_neg length.ne').trans (if_pos same)

theorem filter_begins (length : 0 < r.filterLength) (new : x ≠ r.filtered) (third : x ≠ r.candidate) :
    r.filter x = { r with candidate := x, persistence := 1 } :=
  (if_neg length.ne').trans ((if_neg new).trans (if_neg third))

theorem filter_counts (length : 0 < r.filterLength) (new : x ≠ r.filtered) (again : x = r.candidate) :
    r.filter x = { r with
      persistence := r.persistence + 1, changeDue := decide (8 * r.filterLength ≤ r.persistence + 1) } :=
  (if_neg length.ne').trans ((if_neg new).trans (if_pos again))

/-- The count of a code that persists: it is due after `8N` frames and not before (R22). -/
theorem filter_iterate (length : 0 < r.filterLength) (new : x ≠ r.filtered) (third : x ≠ r.candidate)
    (settled : r.changeDue = false) (n : Nat) : (Slot.filter x)^[n + 1] r =
      { r with candidate := x, persistence := n + 1, changeDue := decide (8 * r.filterLength ≤ n + 1) } := by
  induction n with
  | zero =>
    have early : decide (8 * r.filterLength ≤ 0 + 1) = r.changeDue := by
      rw [settled, decide_eq_false_iff_not]
      omega
    rw [Function.iterate_one, filter_begins length new third, early]
  | succ n ih =>
    rw [Function.iterate_succ_apply', ih]
    exact filter_counts length new rfl

end

theorem exec_filteredCodeChange : ∀ (i : SlotId) (s : State),
    exec (.filteredCodeChange i) s = whileRunning (filteredCodeChange i) s := by
  intros; rfl

/-- Settles O25: the iterated filter is `filter_iterate`. -/
theorem filterTimesANewCode : Obligations.FilterTimesANewCode := by
  refine ⟨fun r x n length new third settled positive _ => ?_, fun r x => filter_unfiltered,
    fun r length => filter_abandons length rfl, fun r x => filter_begins, fun i s running due => ?_⟩
  · obtain ⟨m, rfl⟩ := Nat.exists_eq_add_of_le' positive
    exact filter_iterate length new third settled m
  · rw [exec_filteredCodeChange, whileRunning_running running, filteredCodeChange, if_pos due]
    rfl

/-! ### The player -/

theorem exec_burstEnd : ∀ (i : SlotId) (s : State), exec (.burstEnd i) s = whileRunning (burstEnd i) s := by
  intros; rfl

theorem exec_gapEnd : ∀ (i : SlotId) (s : State), exec (.gapEnd i) s = whileRunning (gapEnd i) s := by
  intros; rfl

section
variable {i : SlotId} {s : State} {x : Tone} {k : Nat}

theorem burstEnd_eq (playing : (s.slot i).tone = some x) (burst : x.phase = .burst k)
    (past : 2 * x.descriptor.halfPeriod * x.descriptor.periods ≤ k) : burstEnd i s =
      if x.descriptor.bursts ≠ 0 ∧ x.descriptor.bursts ≤ x.begun then onSlot i (Slot.endTone s.tones) s
      else if x.descriptor.gap = 0 then onSlot i (fun r => { r with tone := some x.nextBurst }) s
      else onSlot i (fun r => { r with tone := some { x with phase := .gap 0 } }) s := by
  unfold burstEnd
  rw [playing]
  dsimp only
  rw [burst]
  exact if_neg (Nat.not_lt.mpr past)

theorem gapEnd_eq (playing : (s.slot i).tone = some x) (gap : x.phase = .gap k) (past : x.descriptor.gap ≤ k) :
    gapEnd i s = onSlot i (fun r => { r with tone := some x.nextBurst }) s := by
  unfold gapEnd
  rw [playing]
  dsimp only
  rw [gap]
  exact if_neg (Nat.not_lt.mpr past)

end

/-- Settles O45: R157 and R160 by the phase that ends. -/
theorem burstsAndGapsEnd : Obligations.BurstsAndGapsEnd := by
  intro i x s running playing
  simp only [exec_burstEnd, exec_gapEnd, whileRunning_running running]
  refine ⟨fun k burst past => ?_, fun k gap past => congrArg _ (gapEnd_eq playing gap past)⟩
  rw [burstEnd_eq playing burst past]
  refine ⟨fun counted last => ?_, fun more gap => ?_, fun more gap => ?_⟩
  · rw [if_pos ⟨counted, last⟩]
    refine ⟨fun free => ?_, fun p d waits loaded => ?_, fun p waits empty => ?_⟩
    · rw [onSlot, endTone_none free]
    · rw [onSlot, endTone_some waits, loaded]
      rfl
    · rw [onSlot, endTone_some waits, empty]
      rfl
  all_goals
    have goesOn : ¬(x.descriptor.bursts ≠ 0 ∧ x.descriptor.bursts ≤ x.begun) := by omega
  · rw [if_neg goesOn, if_neg gap]
    rfl
  · rw [if_neg goesOn, if_pos gap]
    rfl

/-! ### The transmitter and the refusal hold -/

theorem exec_refusalHoldEnd : ∀ (i : SlotId) (s : State),
    exec (.refusalHoldEnd i) s = whileRunning (refusalHoldEnd i) s := by
  intros; rfl

theorem exec_handsetMessageStart : ∀ (i : SlotId) (s : State),
    exec (.handsetMessageStart i) s = whileRunning (messageStart i) s := by
  intros; rfl

theorem exec_handsetMessageSent : ∀ (i : SlotId) (s : State),
    exec (.handsetMessageSent i) s = whileRunning (messageSent i) s := by
  intros; rfl

theorem flatMap_byteNibbles_length (bytes : List Byte) : (bytes.flatMap byteNibbles).length = 2 * bytes.length := by
  induction bytes with
  | nil => rfl
  | cons b rest ih =>
    rw [List.flatMap_cons, List.length_append, ih, List.length_cons]
    exact (Nat.add_comm 2 _).trans (Nat.mul_succ 2 _).symm

theorem handsetNibbles_length (m : HandsetMessage) : (handsetNibbles m).length = messageLength m := by
  rw [handsetNibbles, flatMap_byteNibbles_length, handsetBytes, messageLength]
  simp

theorem expired_of_due {limit : Nat} {timer : Timer} (due : timer.due = true) (past : limit ≤ timer.elapsed) :
    expired limit (some timer) = true := by
  simp [expired, due, past]

section
variable {i : SlotId} {s : State} {m : HandsetMessage} {rest : List HandsetMessage}

theorem messageStart_eq (due : (s.slot i).startDue = true) (idle : (s.slot i).transmitter = .idle)
    (queue : (s.slot i).txQueue = m :: rest) : messageStart i s =
      onSlot i (fun r => { r with transmitter := .sending 1, auxOut := 0xA, startDue := false }) s := by
  unfold messageStart
  dsimp only
  rw [due, idle, queue]
  rfl

theorem messageSent_eq {k : Nat} (sending : (s.slot i).transmitter = .sending k)
    (queue : (s.slot i).txQueue = m :: rest) (past : messageLength m ≤ k) :
    messageSent i s = s.withSlot i { s.slot i with transmitter := .gap, txQueue := rest } := by
  unfold messageSent
  dsimp only
  rw [sending, queue]
  exact if_pos past

end

/-- Settles O34: R49 and R73. -/
theorem holdsEndAndMessagesMove : Obligations.HoldsEndAndMessagesMove := by
  intro i s running
  simp only [exec_refusalHoldEnd, exec_handsetMessageStart, exec_handsetMessageSent, whileRunning_running running]
  refine ⟨fun timer hold counting due past => ?_, fun m rest due idle queue => congrArg _ (messageStart_eq due idle queue),
    fun m rest k sending queue past => congrArg _ (messageSent_eq sending queue (handsetNibbles_length m ▸ past))⟩
  rw [refusalHoldEnd, if_pos ⟨hold, counting ▸ expired_of_due due past⟩]
  rfl

/-! ### Messages that arrive -/

section
variable {i : SlotId} {s : State}

theorem onArrival_arrives {f : State → State} (arrives : Arrives i s) :
    whileRunning (onArrival i f) s = .next (f (huntAssembler i s)) := by
  obtain ⟨running, takes, delivers⟩ := arrives
  rw [whileRunning_running running, onArrival, if_pos ⟨takes, delivers⟩]

theorem arrives_kind (arrives : Arrives i s) : (s.slot i).kind = .extension := takesNibbles_kind arrives.2.1

theorem slot_huntAssembler_self : (huntAssembler i s).slot i = { s.slot i with assembler := .hunt none } :=
  slot_withSlot_self ..

theorem slot_huntAssembler_other {j : SlotId} (other : j ≠ i) : (huntAssembler i s).slot j = s.slot j :=
  slot_withSlot_of_ne s other.symm _

/-- A change of the slot after its assembler's return to HUNT. -/
theorem onSlot_huntAssembler (f : Slot → Slot) :
    onSlot i f (huntAssembler i s) = s.withSlot i (f { s.slot i with assembler := .hunt none }) := by
  rw [huntAssembler, onSlot_onSlot]
  rfl

end

theorem exec_statusQuery : ∀ (i : SlotId) (s : State),
    exec (.statusQuery i) s = whileRunning (onArrival i (answerStatus i)) s := by
  intros; rfl

theorem exec_garbledMessage : ∀ (i : SlotId) (s : State),
    exec (.garbledMessage i) s = whileRunning (onArrival i (discardGarbled i)) s := by
  intros; rfl

theorem exec_unknownHandsetMessage : ∀ (i : SlotId) (type : Byte) (s : State),
    exec (.unknownHandsetMessage i type) s = whileRunning (onArrival i id) s := by
  intros; rfl

theorem exec_signOn : ∀ (i : SlotId) (n : ExtensionNumber) (serial : BitVec 48) (s : State),
    exec (.signOn i n serial) s = whileRunning (onArrival i (takeSignOn i n serial)) s := by
  intros; rfl

theorem exec_response : ∀ (i : SlotId) (answer : BitVec 32) (s : State),
    exec (.response i answer) s = whileRunning (onArrival i (takeResponse i answer)) s := by
  intros; rfl

theorem exec_signOff : ∀ (i : SlotId) (s : State),
    exec (.signOff i) s = whileRunning (onArrival i (takeSignOff i)) s := by
  intros; rfl

/-! ### Words as bytes -/

/-- Eight bits of a word as a byte. -/
theorem byte_toNat_div {w : Nat} (x : BitVec w) (start : Nat) : byte (x.toNat / 2 ^ start) = x.extractLsb' start 8 := by
  apply BitVec.eq_of_toNat_eq
  rw [byte, BitVec.toNat_ofNat, BitVec.extractLsb'_toNat, Nat.shiftRight_eq_div_pow]

theorem bytes24_toNat (n : BitVec 24) :
    bytes24 n.toNat = [n.extractLsb' 16 8, n.extractLsb' 8 8, n.extractLsb' 0 8] := by
  rw [← byte_toNat_div, ← byte_toNat_div, ← byte_toNat_div, pow_zero, Nat.div_one]
  rfl

theorem bytes32_toNat (n : BitVec 32) :
    bytes32 n.toNat = [n.extractLsb' 24 8, n.extractLsb' 16 8, n.extractLsb' 8 8, n.extractLsb' 0 8] := by
  rw [← byte_toNat_div, ← byte_toNat_div, ← byte_toNat_div, ← byte_toNat_div, pow_zero, Nat.div_one]
  have high : n.toNat / 65536 / 256 = n.toNat / 2 ^ 24 := Nat.div_div_eq_div_mul _ 65536 256
  rw [← high]
  rfl

/-- The body of STATUS on a slot (R45, R46). -/
theorem statusMessage_body (r : Slot) {number : List Byte}
    (number_eq : optional24 (r.number.map BitVec.toNat) = number) :
    statusMessage r = { type := 0x24, body := byte r.admission.code :: number } := by
  rw [statusMessage, number_eq]

/-- Settles O26: R41, R43 and R45 on both sides of a full queue. -/
theorem handsetUnitAnswersAndCounts : Obligations.HandsetUnitAnswersAndCounts := by
  intro i s arrives
  have kind : ((huntAssembler i s).slot i).kind = .extension := (huntAssembler_kind i).trans (arrives_kind arrives)
  have queue : ((huntAssembler i s).slot i).txQueue = (s.slot i).txQueue := by rw [slot_huntAssembler_self]
  simp only [exec_statusQuery, exec_garbledMessage, exec_unknownHandsetMessage, onArrival_arrives arrives]
  refine ⟨fun room => ?_, fun full => ?_, ?_, fun type => rfl⟩
  · rw [answerStatus, enqueue_room kind (queue.symm ▸ room), onSlot_huntAssembler, slot_huntAssembler_self]
    refine congrArg (fun m => Host.Outcome.next (s.withSlot i { s.slot i with
      assembler := .hunt none, txQueue := (s.slot i).txQueue ++ [m] })) (statusMessage_body _ ?_)
    dsimp only
    cases (s.slot i).number with
    | none => rfl
    | some n => exact bytes24_toNat n
  · rw [answerStatus, enqueue_full kind (queue.symm ▸ full)]
    rfl
  · rw [discardGarbled, onSlot_huntAssembler]
    rfl

/-! ### SIGN-ON at a LOCKED slot -/

section
variable {i : SlotId} {s : State} {n : ExtensionNumber} {serial : BitVec 48}

theorem findRecord_of_unique {r : RecordId} {x : Record} (held : s.record r = some x) (named : x.number = n)
    (unique : ∀ q y, s.record q = some y → y.number = n → q = r) : findRecord n s = some r := by
  cases found : findRecord n s with
  | none =>
    have missed := List.find?_eq_none.mp found r (List.mem_finRange r)
    simp [held, named] at missed
  | some q =>
    have holds := List.find?_some found
    obtain ⟨y, held', named'⟩ := (Option.any_eq_true (fun x => x.number == n) (s.record q)).mp holds
    rw [unique q y held' (beq_iff_eq.mp named')]

theorem findRecord_eq_none (nowhere : ∀ q y, s.record q = some y → y.number ≠ n) : findRecord n s = none := by
  refine List.find?_eq_none.mpr fun q _ found => ?_
  obtain ⟨y, held, named⟩ := (Option.any_eq_true _ _).mp found
  exact nowhere q y held (beq_iff_eq.mp named)

theorem takeSignOn_locked (locked : (s.slot i).admission = .locked) :
    takeSignOn i n serial s = judgeSignOn i n serial s := by
  rw [takeSignOn, locked]

theorem judgeSignOn_malformed (malformed : wellFormedNumber n = false) :
    judgeSignOn i n serial s = refuse i .malformed none s := if_pos malformed

theorem judgeSignOn_unknown (wellFormed : wellFormedNumber n = true)
    (nowhere : ∀ q y, s.record q = some y → y.number ≠ n) : judgeSignOn i n serial s = judgeVisitor i n s := by
  rw [judgeSignOn, if_neg (by rw [wellFormed]; decide), findRecord_eq_none nowhere]

/-- The checks of R64 on a number that one record holds. -/
theorem judgeSignOn_known {r : RecordId} {x : Record} (wellFormed : wellFormedNumber n = true)
    (held : s.record r = some x) (named : x.number = n)
    (unique : ∀ q y, s.record q = some y → y.number = n → q = r) : judgeSignOn i n serial s =
      if x.standing = .barred then refuse i .barred (some r) s
      else if serial ≠ x.serial then refuse i .wrongHandset (some r) s
      else if (s.classRecord x.cls).inBand = false then refuse i .outOfHours (some r) s
      else if x.pendingSlot.isSome then refuse i .busy (some r) s
      else challengeSlot i r s := by
  unfold judgeSignOn
  rw [if_neg (by rw [wellFormed]; decide), findRecord_of_unique held named unique]
  dsimp only
  rw [held]

/-- A refusal of a slot that is not signing on, for a reason that is no failure, is its conclusion (R66). -/
theorem refuse_conclude {reason : Reason} {index : Option RecordId} (idle : (s.slot i).signingOn = false)
    (forgiven : reason.isFailure = false) : refuse i reason index s = concludeRefusal i reason index s := by
  unfold refuse
  rw [stopSignOn_idle idle]
  cases index with
  | none => rfl
  | some r =>
    dsimp only
    rw [if_neg (by rw [forgiven]; decide)]

theorem challengeValue_drawNonce (s : State) :
    challengeValue (drawNonce s) = drawnNonce s ++ BitVec.ofNat 8 s.clock.reading.frame := by
  rw [drawNonce_eq, challengeValue, withEngine_engine, withEngine_clock]

/-- What a challenge by `v` writes, once it has been drawn (step 6 of R64). -/
theorem challenge_writes {r : RecordId} {x : Record} (v : BitVec 32) (held : s.record r = some x)
    (kind : (s.slot i).kind = .extension) (room : (s.slot i).txQueue.length < 4) :
    (s |> onRecord r (fun x => { x with pendingSlot := some i })
      |> onSlot i (fun x => { x with
          admission := .challenged, challenge := some v, responseTimer := some { elapsed := 0, due := false } })
      |> enqueue i (challengeMessage v)) =
      (s.withRecord r (some { x with pendingSlot := some i })).withSlot i { s.slot i with
        admission := .challenged, challenge := some v, responseTimer := some { elapsed := 0, due := false }
        txQueue := (s.slot i).txQueue ++ [challengeMessage v] } := by
  dsimp only
  rw [enqueue_room (by rw [slot_onSlot, if_pos rfl]; exact kind) (by rw [slot_onSlot, if_pos rfl]; exact room),
    onSlot_onSlot, onRecord, held]
  rfl

/-- A challenged sign-on (R64, R96). -/
theorem challengeSlot_eq {r : RecordId} {x : Record} (held : s.record r = some x)
    (kind : (s.slot i).kind = .extension) (room : (s.slot i).txQueue.length < 4) : challengeSlot i r s =
      ((s.withEngine { s.engine with nonce := drawnNonce s }).withRecord r (some { x with pendingSlot := some i })).withSlot
        i { s.slot i with
          admission := .challenged, challenge := some (drawnNonce s ++ BitVec.ofNat 8 s.clock.reading.frame)
          responseTimer := some { elapsed := 0, due := false }
          txQueue := (s.slot i).txQueue ++ [challengeMessage (drawnNonce s ++ BitVec.ofNat 8 s.clock.reading.frame)] } := by
  have writes := challenge_writes (challengeValue (drawNonce s)) (i := i) ((record_drawNonce s r).trans held)
    (by rw [slot_drawNonce]; exact kind) (by rw [slot_drawNonce]; exact room)
  rw [slot_drawNonce, challengeValue_drawNonce] at writes
  unfold challengeSlot
  dsimp only
  rw [challengeValue_drawNonce]
  refine writes.trans ?_
  rw [drawNonce_eq]

/-- The visitor checks on a number that a rule matches (R65). -/
theorem judgeVisitor_matched {v : VisitorRule} (matched : matchingRule n s = some v) : judgeVisitor i n s =
    if (s.classRecord v.cls).inBand = false then refuse i .outOfHours none s
    else if visitorElsewhere (some i) n s then refuse i .busy none s
    else if Config.visitorMax ≤ s.visitors.count then refuse i .visitorsFull none s
    else admitVisitor i n v.cls s := by
  rw [judgeVisitor, matched]

theorem visitorElsewhere_other (n : ExtensionNumber) (s : State) : visitorElsewhere (some i) n s = true ↔
    ∃ j, j ≠ i ∧ (s.slot j).isAdmitted = true ∧ (s.slot j).visitor = true ∧ (s.slot j).number = some n := by
  rw [visitorElsewhere_iff]
  simp only [ne_eq, Option.some.injEq]

end

section
variable {i : SlotId} {s : State}

/-- Writes at a slot whose assembler has just returned to HUNT. -/
theorem huntAssembler_writes (e : Engine) (r : RecordId) (y : Option Record) (b : Slot) :
    (((huntAssembler i s).withEngine e).withRecord r y).withSlot i b =
      ((s.withEngine e).withRecord r y).withSlot i b :=
  withSlot_withSlot ((s.withEngine e).withRecord r y) i _ b

theorem drawnNonce_huntAssembler : drawnNonce (huntAssembler i s) = drawnNonce s := rfl

theorem classRecord_huntAssembler (k : ClassId) : (huntAssembler i s).classRecord k = s.classRecord k := rfl

theorem challengeMessage_eq (v : BitVec 32) : challengeMessage v =
    { type := 0x21
      body := [v.extractLsb' 24 8, v.extractLsb' 16 8, v.extractLsb' 8 8, v.extractLsb' 0 8] } := by
  rw [challengeMessage, bytes32_toNat]

end

/-- Settles O27: R64's checks pass, and R64 challenges. -/
theorem signOnIsChallenged : Obligations.SignOnIsChallenged := by
  intro i r x s arrives locked wellFormed held unique standing inBand pending room
  have hunted : (huntAssembler i s).slot i = { s.slot i with assembler := .hunt none } := slot_huntAssembler_self
  have challenged := challengeSlot_eq (s := huntAssembler i s) (i := i) held (by rw [hunted]; exact arrives_kind arrives)
    (by rw [hunted]; exact room)
  rw [hunted, huntAssembler_writes, drawnNonce_huntAssembler, challengeMessage_eq] at challenged
  rw [exec_signOn, onArrival_arrives arrives, takeSignOn_locked (by rw [hunted]; exact locked),
    judgeSignOn_known (s := huntAssembler i s) wellFormed held rfl unique, if_neg standing, if_neg (not_not_intro rfl),
    if_neg (by rw [classRecord_huntAssembler, inBand]; decide), if_neg (by rw [pending]; decide)]
  exact congrArg Host.Outcome.next challenged

/-! ### Visitors -/

section
variable {i : SlotId} {s : State} {n : ExtensionNumber}

theorem enqueueAdmitted_eq {k : ClassId} (cls : (s.slot i).admissionClass = some k) : enqueueAdmitted i s =
    enqueue i (admittedMessage k (!(s.slot i).visitor && (s.classRecord k).privacy)) s := by
  rw [enqueueAdmitted, cls]

/-- A visitor's slot (step 5 of R65). -/
def Slot.visiting (n : ExtensionNumber) (k : ClassId) (r : Slot) : Slot :=
  { r with admission := .admitted, visitor := true, number := some n, admissionClass := some k, boundIndex := none }

/-- A visitor admission whose message finds room (R65). -/
theorem admitVisitor_eq (k : ClassId) (kind : (s.slot i).kind = .extension) (room : (s.slot i).txQueue.length < 4) :
    admitVisitor i n k s = requestFunction .admission i (post .signedOn (some i) none none (byte (k.val + 0x80))
      (State.withSlot { s with visitors := { s.visitors with count := s.visitors.count + 1 } } i
        { (s.slot i).visiting n k with txQueue := (s.slot i).txQueue ++ [admittedMessage k false] })) := by
  let counted : State := { s with visitors := { s.visitors with count := s.visitors.count + 1 } }
  have slot : (onSlot i (Slot.visiting n k) counted).slot i = (s.slot i).visiting n k := slot_withSlot_self ..
  have message : enqueueAdmitted i (onSlot i (Slot.visiting n k) counted) =
      counted.withSlot i { (s.slot i).visiting n k with txQueue := (s.slot i).txQueue ++ [admittedMessage k false] } := by
    rw [enqueueAdmitted_eq (k := k) (by rw [slot]; rfl),
      enqueue_room (by rw [slot]; exact kind) (by rw [slot]; exact room), onSlot_onSlot, slot]
    rfl
  exact congrArg (fun t => requestFunction .admission i (post .signedOn (some i) none none (byte (k.val + 0x80)) t)) message

end

/-- Settles O28: R65's checks pass, and R65 admits. -/
theorem visitorIsAdmitted : Obligations.VisitorIsAdmitted := by
  intro i n serial v s arrives locked wellFormed nowhere matched inBand unique fewer room
  let t := huntAssembler i s
  have hunted : t.slot i = { s.slot i with assembler := .hunt none } := slot_huntAssembler_self
  have alone : ¬visitorElsewhere (some i) n t = true := by
    rw [visitorElsewhere_other]
    rintro ⟨j, other, admitted, visitor, named⟩
    rw [slot_huntAssembler_other other] at admitted visitor named
    exact unique j other admitted visitor named
  have judged : takeSignOn i n serial t = admitVisitor i n v.cls t := by
    rw [takeSignOn_locked (by rw [hunted]; exact locked), judgeSignOn_unknown (s := t) wellFormed nowhere,
      judgeVisitor_matched (s := t) matched, if_neg (by rw [classRecord_huntAssembler, inBand]; decide), if_neg alone,
      if_neg (show ¬Config.visitorMax ≤ t.visitors.count from Nat.not_le.mpr fewer)]
  rw [admitVisitor_eq v.cls (by rw [hunted]; exact arrives_kind arrives) (by rw [hunted]; exact room), hunted] at judged
  rw [exec_signOn, onArrival_arrives arrives]
  refine ⟨_, congrArg _ judged, ?_⟩
  generalize written : State.withSlot { t with visitors := { t.visitors with count := t.visitors.count + 1 } } i
    { Slot.visiting n v.cls { s.slot i with assembler := .hunt none } with
      txQueue := ({ s.slot i with assembler := .hunt none } : Slot).txQueue ++ [admittedMessage v.cls false] } = w
  have slot : ((requestFunction .admission i (post .signedOn (some i) none none (byte (v.cls.val + 0x80)) w)).slot i) =
      { Slot.visiting n v.cls { s.slot i with assembler := .hunt none } with
        txQueue := (s.slot i).txQueue ++ [admittedMessage v.cls false]
        tone := ((requestFunction .admission i (post .signedOn (some i) none none (byte (v.cls.val + 0x80)) w)).slot i).tone
        pendingTone := ((requestFunction .admission i
          (post .signedOn (some i) none none (byte (v.cls.val + 0x80)) w)).slot i).pendingTone } := by
    refine (requestFunction_slot_self _).trans ?_
    rw [slot_post, ← written, slot_withSlot_self]
  refine ⟨by rw [slot]; rfl, by rw [slot]; rfl, by rw [slot]; rfl, by rw [slot]; rfl, by rw [slot]; rfl,
    by rw [slot]; rfl, fun j other => ?_, ?_⟩
  · rw [requestFunction_slot_other _ other, slot_post, ← written, slot_withSlot_of_ne _ other.symm]
    exact slot_huntAssembler_other other
  · rw [requestFunction_eq, post_eq, post_events_congr (s := w) (t := s) _ _ _ _ _ (by rw [← written]; rfl)
      (by rw [← written]; rfl), ← written]
    rfl

/-! ### Refusals without a failure -/

/-- Settles O29: each reason leads to the conclusion of a refusal (R66). -/
theorem signOnIsRefused : Obligations.SignOnIsRefused := by
  intro i n serial reason index s arrives locked room why
  let t := huntAssembler i s
  have hunted : t.slot i = { s.slot i with assembler := .hunt none } := slot_huntAssembler_self
  have idle : (t.slot i).signingOn = false := by rw [hunted, Slot.signingOn, locked]; rfl
  have refused : takeSignOn i n serial t = refuse i reason index t ∧ reason.isFailure = false := by
    rw [takeSignOn_locked (by rw [hunted]; exact locked)]
    obtain ⟨malformed, rfl, rfl⟩ | ⟨wellFormed, nowhere, unmatched, rfl, rfl⟩ |
      ⟨wellFormed, nowhere, rfl, v, matched, cause⟩ | ⟨r, x, wellFormed, held, named, unique, rfl, cause⟩ := why
    · exact ⟨judgeSignOn_malformed malformed, rfl⟩
    · rw [judgeSignOn_unknown (s := t) wellFormed nowhere, judgeVisitor,
        show matchingRule n t = none from unmatched]
      exact ⟨rfl, rfl⟩
    · rw [judgeSignOn_unknown (s := t) wellFormed nowhere, judgeVisitor_matched (s := t) matched]
      have elsewhere : visitorElsewhere (some i) n t = true ↔
          ∃ j, j ≠ i ∧ (s.slot j).isAdmitted = true ∧ (s.slot j).visitor = true ∧ (s.slot j).number = some n := by
        rw [visitorElsewhere_other]
        refine exists_congr fun j => and_congr_right fun other => ?_
        rw [slot_huntAssembler_other other]
      obtain ⟨out, rfl⟩ | ⟨inBand, rfl, found⟩ | ⟨inBand, rfl, full, alone⟩ := cause
      · rw [if_pos (by exact out)]
        exact ⟨rfl, rfl⟩
      · rw [if_neg (by rw [classRecord_huntAssembler, inBand]; decide), if_pos (elsewhere.mpr found)]
        exact ⟨rfl, rfl⟩
      · have missing : ¬visitorElsewhere (some i) n t = true := by
          rw [elsewhere]
          rintro ⟨j, other, admitted, visitor, named⟩
          exact alone j other admitted visitor named
        rw [if_neg (by rw [classRecord_huntAssembler, inBand]; decide), if_neg missing, if_pos (by exact full)]
        exact ⟨rfl, rfl⟩
    · rw [judgeSignOn_known (s := t) wellFormed held named unique]
      obtain ⟨barred, rfl⟩ | ⟨standing, rfl, out, rfl⟩ | ⟨standing, rfl, inBand, pending, rfl⟩ := cause
      · rw [if_pos barred]
        exact ⟨rfl, rfl⟩
      · rw [if_neg standing, if_neg (not_not_intro rfl), if_pos (by exact out)]
        exact ⟨rfl, rfl⟩
      · rw [if_neg standing, if_neg (not_not_intro rfl), if_neg (by rw [classRecord_huntAssembler, inBand]; decide),
          if_pos pending]
        exact ⟨rfl, rfl⟩
  obtain ⟨taken, forgiven⟩ := refused
  have concluded := concludeRefusal_refused i reason index t
  obtain ⟨queue, events⟩ := concluded.queued (by rw [hunted]; exact arrives_kind arrives) (by rw [hunted]; exact room)
  rw [exec_signOn, onArrival_arrives arrives]
  refine ⟨_, congrArg _ (taken.trans (refuse_conclude idle forgiven)), fun zero => ?_, fun positive => ?_, ?_, ?_, ?_⟩
  · have zero' : t.timers.refusalHold = 0 := zero
    rw [concluded.slot, if_pos zero', if_pos zero']
    exact ⟨rfl, rfl⟩
  · have positive' : ¬t.timers.refusalHold = 0 := positive
    rw [concluded.slot, if_neg positive', if_neg positive']
    exact ⟨rfl, rfl⟩
  · rw [queue, hunted]
  · exact fun j other => (concluded.others j other).trans (slot_huntAssembler_other other)
  · rw [concluded.rest, events, post_events_congr (s := t) (t := s) _ _ _ _ _ rfl rfl]
    rfl

/-! ### RESPONSE and SIGN-OFF -/

section
variable {i : SlotId} {s : State} {r : RecordId}

theorem takeResponse_challenged {answer : BitVec 32} (challenged : (s.slot i).admission = .challenged)
    (pending : pendingRecord i s = some r) : takeResponse i answer s =
      postJob (.verify i r answer) (onSlot i (fun r => { r with admission := .verifying, responseTimer := none }) s) := by
  rw [takeResponse, if_pos challenged, pending]

theorem abandon_signing (signing : (s.slot i).signingOn = true) : abandon i s =
    onSlot i (fun r => { r with admission := .locked, responseTimer := none, challenge := none })
      (clearPending i (withdraw (Job.isVerifyOf i) s)) := if_pos signing

theorem clearPending_some (pending : pendingRecord i s = some r) :
    clearPending i s = onRecord r (fun x => { x with pendingSlot := none }) s := by
  rw [clearPending_eq, pending, Option.elim_some]

/-- An abandon by its record (R74). -/
theorem abandon_pending {x : Record} (signing : (s.slot i).signingOn = true) (held : s.record r = some x)
    (pending : x.pendingSlot = some i) (unique : ∀ q y, s.record q = some y → y.pendingSlot = some i → q = r) :
    abandon i s = ((s.withEngine (s.engine.withdraw (Job.isVerifyOf i))).withRecord r
      (some { x with pendingSlot := none })).withSlot i
        { s.slot i with admission := .locked, responseTimer := none, challenge := none } := by
  have found : pendingRecord i (withdraw (Job.isVerifyOf i) s) = some r :=
    pendingRecord_of_unique (s := withdraw (Job.isVerifyOf i) s) held pending unique
  rw [abandon_signing signing, clearPending_some found, onRecord, record_withdraw, held]
  rfl

end

/-- Settles O30: R68 and R74. -/
theorem responseVerifiesAndSignOffAbandons : Obligations.ResponseVerifiesAndSignOffAbandons := by
  intro i r x answer s arrives held pending unique
  have hunted : (huntAssembler i s).slot i = { s.slot i with assembler := .hunt none } := slot_huntAssembler_self
  refine ⟨fun challenged => ?_, fun signing => ?_⟩
  · have found : pendingRecord i (huntAssembler i s) = some r :=
      pendingRecord_of_unique (s := huntAssembler i s) held pending unique
    rw [exec_response, onArrival_arrives arrives, takeResponse_challenged (by rw [hunted]; exact challenged) found,
      onSlot_huntAssembler]
    rfl
  · have signing' : ((huntAssembler i s).slot i).signingOn = true := by rw [hunted]; exact signing
    rw [exec_signOff, onArrival_arrives arrives, takeSignOff, if_pos signing',
      abandon_pending signing' held pending unique, hunted, huntAssembler_writes]
    rfl

end Sys2Proof.Machine
end

section
/-! PROOFS. The engine's selection and its deliveries of call keys, the scrambler's boundary in RUNNING with the two
triggers of a rekey, and the free after the second CLEAR block. -/

namespace Sys2Proof.Machine

open Sys2Proof.Safety

/-! ### The selection -/

theorem exec_engineSelect : ∀ s : State, exec .engineSelect s = whileRunning engineSelect s := by
  intros; rfl

section
variable {e : Engine} {s : State}

/-- Some candidate has the lowest level. -/
theorem lowest_candidate (some : e.candidates ≠ []) :
    ∃ q ∈ e.candidates, ∀ p ∈ e.candidates, e.level q.job ≤ e.level p.job := by
  cases lowest : e.candidates.argmin fun q => e.level q.job with
  | none => exact absurd (List.argmin_eq_none.mp lowest) some
  | some q => exact ⟨q, List.argmin_mem lowest, fun p member => List.le_of_mem_argmin (f := fun q : Request => e.level q.job) member lowest⟩

/-- The selection finds the earliest of the lowest level (R90). -/
theorem selected_lowest (some : e.candidates ≠ []) : ∃ q before after, e.selected = .some q ∧
    e.candidates = before ++ q :: after ∧ (∀ p ∈ before, e.level q.job < e.level p.job) ∧
      ∀ p ∈ after, e.level q.job ≤ e.level p.job := by
  obtain ⟨low, member, lowest⟩ := lowest_candidate some
  have found : e.selected.isSome := by
    rw [Engine.selected, List.find?_isSome]
    exact ⟨low, member, List.all_eq_true.mpr fun p held => decide_eq_true (lowest p held)⟩
  obtain ⟨q, selected⟩ := Option.isSome_iff_exists.mp found
  obtain ⟨least, before, after, split, passed⟩ := List.find?_eq_some_iff_append.mp selected
  have minimal (p : Request) (held : p ∈ e.candidates) : e.level q.job ≤ e.level p.job :=
    of_decide_eq_true (List.all_eq_true.mp least p held)
  refine ⟨q, before, after, selected, split, fun p held => ?_, fun p held => minimal p ?_⟩
  · by_contra above
    refine absurd (passed p held) ?_
    rw [Bool.not_eq_true', Bool.not_eq_false, List.all_eq_true]
    exact fun r candidate => decide_eq_true ((Nat.not_lt.mp above).trans (minimal r candidate))
  · rw [split]
    exact List.mem_append_right _ (List.mem_cons_of_mem q held)

theorem engineSelect_selected {q : Request} (idle : s.engine.phase = .idle) (selected : s.engine.selected = some q) :
    engineSelect s = s.withEngine { s.engine with
      phase := .load
      operation := some (loadJob q.job s)
      requests := s.engine.requests.map fun p => if p.job = q.job then { p with inFlight := true } else p } := by
  rw [engineSelect, if_pos idle, selected]

/-- The two words of a run's input, put together. -/
theorem halves_join (v : BitVec 32) : (v.extractLsb' 16 16 ++ v.extractLsb' 0 16 : BitVec 32) = v :=
  BitVec.extractLsb'_append_extractLsb'_eq_extractLsb' rfl |>.trans (BitVec.extractLsb'_eq_self)

theorem loadJob_verify {i : SlotId} {r : RecordId} {answer : BitVec 32} {x : Record} {v : BitVec 32}
    (held : s.record r = some x) (asked : (s.slot i).challenge = some v) :
    (loadJob (.verify i r answer) s).key = x.secret ∧ (loadJob (.verify i r answer) s).word2 = none ∧
      (loadJob (.verify i r answer) s).a ++ (loadJob (.verify i r answer) s).b = v := by
  unfold loadJob
  dsimp only
  rw [held, asked]
  exact ⟨rfl, rfl, halves_join v⟩

theorem loadDerive_fields {j : Job} {site : SiteId} {nonce : BitVec 24} {epoch : Nibble} {y : Site}
    (held : s.sites[site] = some y) : (loadDerive j site nonce epoch s).key = y.key ∧
      (loadDerive j site nonce epoch s).a ++ (loadDerive j site nonce epoch s).b = nonce ++ epoch ++ (1 : Nibble) ∧
      (loadDerive j site nonce epoch s).word2 = some (nonce ++ epoch ++ (2 : Nibble)) := by
  unfold loadDerive
  rw [held]
  exact ⟨rfl, halves_join _, rfl⟩

end

/-- Settles O36: the selection is `selected_lowest`, the material captured `loadJob_verify` and `loadDerive_fields`. -/
theorem engineSelectsTheLowestLevel : Obligations.EngineSelectsTheLowestLevel := by
  intro s running idle waiting
  obtain ⟨q, before, after, selected, split, higher, least⟩ := selected_lowest waiting
  refine ⟨q, before, after, split, higher, least, ?_, fun i r answer x v verify held asked => ?_,
    fun c site nonce epoch y derive held => ?_⟩
  · rw [exec_engineSelect, whileRunning_running running, engineSelect_selected idle selected]
    rfl
  · rw [verify]
    exact loadJob_verify held asked
  · obtain tx | rx := derive
    · rw [tx]
      exact loadDerive_fields held
    · rw [rx]
      exact loadDerive_fields held

/-! ### Keys delivered -/

theorem exec_txKeyDelivery : ∀ s : State, exec .txKeyDelivery s = whileRunning txKeyDelivery s := by
  intros; rfl

theorem exec_rxKeyDelivery : ∀ s : State, exec .rxKeyDelivery s = whileRunning rxKeyDelivery s := by
  intros; rfl

theorem onContext_held {c : ContextId} {x : Context} {s : State} (held : s.context c = some x)
    (f : Context → Context) : onContext c f s = s.withContext c (some (f x)) := by
  rw [onContext, held]
  rfl

theorem onDescrambler_held {c : ContextId} {x : Context} {s : State} (held : s.context c = some x)
    (f : Descrambler → Descrambler) :
    onDescrambler c f s = s.withContext c (some { x with descrambler := f x.descrambler }) :=
  onContext_held held _

section
variable {c : ContextId} {site : SiteId} {nonce : BitVec 24} {epoch : Nibble} {op : Operation} {x : Context} {s : State}

/-- The engine once the completed operation `op` has left it (R93). -/
def Engine.rested (e : Engine) (op : Operation) : Engine :=
  { e with requests := e.requests.filter fun q => q.job != op.job, operation := none, toRest := true }

theorem completed_of_complete (flown : s.engine.operation = some op) (complete : op.complete = true) :
    completed s = some op :=
  Option.filter_eq_some_iff.mpr ⟨flown, complete⟩

theorem finishOperation_eq (op : Operation) (s : State) :
    finishOperation op.job s = s.withEngine (s.engine.rested op) := rfl

theorem txKeyDelivery_eq (flown : s.engine.operation = some op) (complete : op.complete = true)
    (job : op.job = .txKey c site nonce epoch) (held : s.context c = some x) :
    txKeyDelivery s = (s.withEngine (s.engine.rested op)).withContext c
      (some { x with scrambler := x.scrambler.takeKey op.keyWords }) := by
  unfold txKeyDelivery
  rw [completed_of_complete flown complete]
  dsimp only
  split
  next d _ _ _ job' =>
    obtain ⟨rfl, -⟩ := Job.txKey.inj (job.symm.trans job')
    rw [finishOperation_eq]
    exact onContext_held ((context_withEngine ..).trans held) _
  next other => exact absurd job (other _ _ _ _)

theorem rxKeyDelivery_eq (flown : s.engine.operation = some op) (complete : op.complete = true)
    (job : op.job = .rxKey c site nonce epoch) (held : s.context c = some x) :
    rxKeyDelivery s = (s.withEngine (s.engine.rested op)).withContext c
      (some { x with descrambler := x.descrambler.takeKey nonce epoch op.keyWords }) := by
  unfold rxKeyDelivery
  rw [completed_of_complete flown complete]
  dsimp only
  split
  next d _ _ _ job' =>
    obtain ⟨rfl, -, rfl, rfl⟩ := Job.rxKey.inj (job.symm.trans job')
    rw [finishOperation_eq]
    exact onDescrambler_held ((context_withEngine ..).trans held) _
  next other => exact absurd job (other _ _ _ _)

theorem scrambler_takeKey {sc : Scrambler} {n : NextKey} (w : KeyWords) (next : sc.next = some n)
    (awaits : sc.state = .keying ∨ sc.state = .rekeying) :
    sc.takeKey w = { sc with next := some { n with words := some w, fresh := true } } := by
  rw [Scrambler.takeKey, if_pos awaits, next]
  rfl

section
variable {d : Descrambler} {p : PendingKey}

theorem descrambler_takeKey_announced (w : KeyWords) (pending : d.pending = some p) (awaited : p.words = none)
    (announced : p.countdown.isSome) :
    d.takeKey p.nonce p.epoch w = { d with pending := some { p with words := some w } } := by
  unfold Descrambler.takeKey
  rw [pending]
  dsimp only
  rw [awaited, if_neg (by simp), if_pos announced]

theorem descrambler_takeKey_sought (w : KeyWords) (pending : d.pending = some p) (awaited : p.words = none)
    (sought : p.countdown = none) : d.takeKey p.nonce p.epoch w = { d with
      held := some { nonce := p.nonce, epoch := p.epoch, words := w }
      pending := none
      state := if d.state = .keywait ∧ d.sighted = true then .presync else d.state
      good := if d.state = .keywait ∧ d.sighted = true then 0 else d.good } := by
  unfold Descrambler.takeKey
  rw [pending]
  dsimp only
  rw [awaited, if_neg (by simp), sought, if_neg (by simp)]
  split <;> rfl

end

end

/-- Settles O37: the deliveries are `txKeyDelivery_eq` and `rxKeyDelivery_eq`, and what the sub-records take
`scrambler_takeKey` and the two cases of a pending key. -/
theorem keysAreDelivered : Obligations.KeysAreDelivered := by
  intro c site nonce epoch op x s running flown complete held
  refine ⟨fun n job next awaits => ?_, fun p job pending hn he awaited => ⟨fun announced => ?_, fun sought => ?_⟩⟩
  · rw [exec_txKeyDelivery, whileRunning_running running, txKeyDelivery_eq flown complete job held,
      scrambler_takeKey _ next awaits]
    rfl
  all_goals
    subst hn he
    rw [exec_rxKeyDelivery, whileRunning_running running, rxKeyDelivery_eq flown complete job held]
  · rw [descrambler_takeKey_announced _ pending awaited announced]
    rfl
  · rw [descrambler_takeKey_sought _ pending awaited sought]
    rfl

/-! ### A boundary in RUNNING -/

theorem exec_blockBoundary : ∀ (c : ContextId) (s : State),
    exec (.blockBoundary c) s = whileRunning (blockBoundary c) s := by
  intros; rfl

theorem exec_rekeyIntervalExpiry : ∀ (c : ContextId) (s : State),
    exec (.rekeyIntervalExpiry c) s = whileRunning (rekeyIntervalExpiry c) s := by
  intros; rfl

section
variable {c : ContextId} {x : Context} {k : CallKey} {s : State}

theorem emitData_keyed {sc : Scrambler} (p : Profile) (current : sc.current = some k) : sc.emitData p = { sc with
    last := some sc.nextCounter
    emission := .block
      { kind := .data, epoch := k.epoch, counter := sc.nextCounter, nonce := k.nonce, countdown := 0xF }
      (scramble p.segment p.masking k.words sc.nextCounter sc.collected) } := by
  rw [Scrambler.emitData, current]

theorem assignBlock_running (running : x.scrambler.state = .running) :
    x.assignBlock = { x with scrambler := x.scrambler.emitData x.profile, boundaryDue := false } := by
  unfold Context.assignBlock
  dsimp only
  rw [running]

theorem blockBoundary_due (held : s.context c = some x) (due : x.boundaryDue = true) : blockBoundary c s =
    match x.scrambler.state with
    | .keying => keyingBoundary c x s
    | .running => runningBoundary c x s
    | .rekeying => rekeyingBoundary c x s
    | .announcing => announcingBoundary c x s
    | .clearing => clearingBoundary c x s
    | .stopped => s := by
  rw [blockBoundary, held]
  exact if_pos due

theorem blockBoundary_running (held : s.context c = some x) (due : x.boundaryDue = true)
    (running : x.scrambler.state = .running) : blockBoundary c s = runningBoundary c x s := by
  rw [blockBoundary_due held due, running]

theorem rekeyed_withContext (y : Context) (o : Option Context) (s : State) :
    rekeyed c y k (s.withContext c o) = rekeyed c y k s := by
  have drawn : drawnNonce (s.withContext c o) = drawnNonce s := rfl
  unfold rekeyed
  rw [drawn, withContext_engine]
  exact withContext_withContext (s.withEngine _) ..

theorem runningBoundary_eq (running : x.scrambler.state = .running) (current : x.scrambler.current = some k) :
    runningBoundary c x s =
      if x.scrambler.nextCounter = 65024 then rekeyed c x.assignBlock k s else s.withContext c (some x.assignBlock) := by
  have emitted := assignBlock_running running
  rw [emitData_keyed x.profile current] at emitted
  have last : x.assignBlock.scrambler.last = some x.scrambler.nextCounter := by rw [emitted]
  have state : x.assignBlock.scrambler.state = .running := by rw [emitted]; exact running
  have key : x.assignBlock.scrambler.current = some k := by rw [emitted]; exact current
  unfold runningBoundary
  dsimp only
  rw [last, startRekey_running (context_withContext_self ..) state key, rekeyed_withContext]
  simp only [Option.some.injEq]
  rfl

theorem nextCounter_eq (sc : Scrambler) : sc.nextCounter = match sc.last with
    | none => 0
    | some n => n + 1 := by
  unfold Scrambler.nextCounter
  cases sc.last <;> rfl

theorem rekeyIntervalExpiry_due (held : s.context c = some x) (set : x.profile.rekeyInterval ≠ 0)
    (run : x.profile.rekeyInterval * 480000 ≤ x.rekeyElapsed) : rekeyIntervalExpiry c s = startRekey c s := by
  rw [rekeyIntervalExpiry, held]
  exact if_pos ⟨set, run⟩

end

/-- Settles O38: the boundary is `runningBoundary_eq`, the rekey of both triggers `startRekey_running`. -/
theorem runningBoundaryEmitsData : Obligations.RunningBoundaryEmitsData := by
  intro c x k s running held state current nonce rekeyed' counter emitted
  have counted : x.scrambler.nextCounter = counter := nextCounter_eq x.scrambler
  have assigned : x.assignBlock = emitted := by
    rw [assignBlock_running state, emitData_keyed x.profile current, counted]
  refine ⟨fun due => ⟨fun below => ?_, fun reached => ?_⟩, fun set run => ?_⟩
  · rw [exec_blockBoundary, whileRunning_running running, blockBoundary_running held due state,
      runningBoundary_eq state current, counted, if_neg below, assigned]
  · rw [exec_blockBoundary, whileRunning_running running, blockBoundary_running held due state,
      runningBoundary_eq state current, counted, if_pos reached, assigned]
    rfl
  · rw [exec_rekeyIntervalExpiry, whileRunning_running running, rekeyIntervalExpiry_due held set run,
      startRekey_running held state current]
    rfl

end Sys2Proof.Machine
end

section
/-! PROOFS. What a free leaves of the state, the closes by guards, timers, CLEAR markers and CLOSE-PRIVACY, and the
scrambler's boundaries around a key with the test of privacy. -/

namespace Sys2Proof.Machine

open Sys2Proof.Safety

/-! ### What a free leaves -/

section
variable {c : ContextId} {x y : Context} {cause : Option CloseCause} {s t : State}

/-- The fields that a free sets beside PRIVACY-OFF. -/
theorem afterFree_state (c : ContextId) (x : Context) (s : State) : afterFree c x x.cause s = { s with
    slots := (unbind c x s).slots
    contexts := (s.withContext c none).contexts
    records := (storeRecord (callRecord x s) s).records
    events := (post .contextClosed (some x.tie) (some c) (some x.index) (causeByte x) s).events } := by
  rw [← recordFree_withContext, recordFree_eq]
  rfl

theorem afterFree_parts (c : ContextId) (x : Context) (cause : Option CloseCause) (s : State) :
    afterFree c x cause s = { s with
      slots := (unbind c x s).slots
      contexts := (s.withContext c none).contexts
      records := (storeRecord (callRecord { x with cause := cause } s) s).records
      events := (post .contextClosed (some x.tie) (some c) (some x.index)
        (causeByte { x with cause := cause }) s).events } :=
  afterFree_state c { x with cause := cause } s

theorem afterFree_tones (c : ContextId) (x : Context) (cause : Option CloseCause) (s : State) :
    (afterFree c x cause s).tones = s.tones := by
  rw [afterFree_parts]

theorem afterFree_slot (c : ContextId) (x : Context) (cause : Option CloseCause) (s : State) (j : SlotId) :
    (afterFree c x cause s).slot j = (unbind c x s).slot j := by
  rw [afterFree_parts]
  rfl

theorem afterFree_context_other {d : ContextId} (other : d ≠ c) (x : Context) (cause : Option CloseCause) (s : State) :
    (afterFree c x cause s).context d = s.context d := by
  rw [afterFree_parts]
  exact context_withContext_of_ne s other.symm none

theorem unbind_tie (apart : x.tie ≠ x.ext) :
    (unbind c x s).slot x.tie = { s.slot x.tie with boundContext := none } := by
  unfold unbind
  rw [slot_onSlot, if_neg apart.symm, slot_onSlot, if_pos rfl]

theorem unbind_ext (apart : x.tie ≠ x.ext) : (unbind c x s).slot x.ext =
    { s.slot x.ext with partners := (s.slot x.ext).partners.filter (· != c) } := by
  unfold unbind
  rw [slot_onSlot, if_pos rfl, slot_onSlot, if_neg apart]

theorem unbind_other {j : SlotId} (tie : j ≠ x.tie) (ext : j ≠ x.ext) : (unbind c x s).slot j = s.slot j := by
  unfold unbind
  rw [slot_onSlot, if_neg ext.symm, slot_onSlot, if_neg tie.symm]

/-- The causes for which PRIVACY-OFF is sent (step 5 of R110). -/
theorem silent_eq_false_iff : cause.any CloseCause.silent = false ↔
    cause ≠ some .lineLoss ∧ cause ≠ some .reset ∧ cause ≠ some .erased := by
  cases cause with
  | none => exact ⟨fun _ => ⟨nofun, nofun, nofun⟩, fun _ => rfl⟩
  | some k => cases k <;> decide

theorem privacyOff_heard (reached : x.reached = true) (present : x.gone = false)
    (loud : x.cause.any CloseCause.silent = false) (s : State) : privacyOff x s =
      requestFunction .privacyOff x.ext (enqueue x.ext (noticeMessage .privacyOff) s) :=
  if_pos (by rw [reached, present, loud]; rfl)

theorem privacyOff_unheard (unheard : x.reached = false ∨ x.gone = true ∨ x.cause.any CloseCause.silent = true)
    (s : State) : privacyOff x s = s := by
  refine if_neg ?_
  obtain h | h | h := unheard <;> simp [h]

/-- A free is told to the partner as `Freed` says (R110). -/
theorem privacyOff_freed (c : ContextId) (y : Context) (s : State) :
    Freed c y y.cause s (privacyOff y (afterFree c y y.cause s)) := by
  constructor
  · intro reached present lineLoss reset erased
    rw [privacyOff_heard reached present (silent_eq_false_iff.mpr ⟨lineLoss, reset, erased⟩)]
    have noticed := noticed_of_notice .privacyOff .privacyOff y.ext (afterFree c y y.cause s)
    rw [afterFree_tones] at noticed
    exact noticed
  · intro unheard
    refine privacyOff_unheard (unheard.imp_right (Or.imp_right fun silent => ?_)) _
    rw [← Bool.not_eq_false, silent_eq_false_iff]
    intro ⟨lineLoss, reset, erased⟩
    exact silent.elim lineLoss (Or.elim · reset erased)

theorem freeContext_freed (held : s.context c = some x) : Freed c x x.cause s (freeContext c s) := by
  rw [freeContext_eq held]
  exact privacyOff_freed c x s

/-- Whether PRIVACY-OFF is heard or not. -/
theorem freed_heard_or (freed : Freed c x cause s t) :
    t = afterFree c x cause s ∨ x.reached = true ∧ x.gone = false ∧
      Noticed x.ext 0x02 s.tones.functions.privacyOff (afterFree c x cause s) t := by
  cases reached : x.reached with
  | false => exact .inl (freed.unheard (.inl reached))
  | true =>
    cases gone : x.gone with
    | true => exact .inl (freed.unheard (.inr (.inl gone)))
    | false =>
      cases silent : cause.any CloseCause.silent with
      | false =>
        obtain ⟨lineLoss, reset, erased⟩ := silent_eq_false_iff.mp silent
        exact .inr ⟨rfl, rfl, freed.heard reached gone lineLoss reset erased⟩
      | true =>
        refine .inl (freed.unheard (.inr (.inr ?_)))
        by_contra loud
        push Not at loud
        rw [silent_eq_false_iff.mpr loud] at silent
        exact Bool.false_ne_true silent

theorem freed_rest (freed : Freed c x cause s t) :
    t = { afterFree c x cause s with slots := t.slots, events := t.events } := by
  obtain same | ⟨-, -, noticed⟩ := freed_heard_or freed
  · rw [same]
  · exact noticed.rest

theorem freed_slot_other (freed : Freed c x cause s t) {j : SlotId} (other : j ≠ x.ext) :
    t.slot j = (afterFree c x cause s).slot j := by
  obtain same | ⟨-, -, noticed⟩ := freed_heard_or freed
  · rw [same]
  · exact noticed.others j other

theorem freed_context (freed : Freed c x cause s t) (d : ContextId) :
    t.context d = (afterFree c x cause s).context d := by
  have rest := congrArg (fun u : State => u.context d) (freed_rest freed)
  exact rest

theorem freed_state (freed : Freed c x cause s t) : t = { s with
    slots := t.slots, contexts := t.contexts, events := t.events, records := t.records } := by
  have rest := freed_rest freed
  rw [afterFree_parts] at rest
  have records : t.records = _ := congrArg State.records rest
  have contexts : t.contexts = _ := congrArg State.contexts rest
  refine rest.trans ?_
  rw [contexts, records]

theorem freed_ext (freed : Freed c x cause s t) (apart : x.tie ≠ x.ext) : t.slot x.ext = { s.slot x.ext with
    partners := (s.slot x.ext).partners.filter (· != c), txQueue := (t.slot x.ext).txQueue
    tone := (t.slot x.ext).tone, pendingTone := (t.slot x.ext).pendingTone } := by
  have unbound : (afterFree c x cause s).slot x.ext = _ := (afterFree_slot c x cause s x.ext).trans (unbind_ext apart)
  obtain same | ⟨-, -, noticed⟩ := freed_heard_or freed
  · rw [same, unbound]
  · have slot := noticed.slot
    rw [unbound] at slot
    exact slot

end

theorem exec_contextFree : ∀ (c : ContextId) (s : State),
    exec (.contextFree c) s = whileRunning (contextFree c) s := by
  intros; rfl

theorem contextFree_due {c : ContextId} {x : Context} {s : State} (held : s.context c = some x)
    (closing : x.phase = .closing) (second : x.scrambler.clearCount = 2) (taken : x.boundaryDue = false)
    (last : x.offset + 1 = 8 * x.profile.segment) : contextFree c s = freeContext c s := by
  rw [contextFree, held]
  exact if_pos ⟨closing, second, taken, last⟩

/-- Settles O41: `freeContext_freed`, with what `Freed` says of each part of the state. -/
theorem secondClearBlockFrees : Obligations.SecondClearBlockFrees := by
  intro c x s running held closing second taken last apart
  have freed := freeContext_freed held
  have free := afterFree_state c x s
  refine ⟨freeContext c s, ?_, (freed_context freed c).trans (afterFree_context ..), freed,
    fun d other => (freed_context freed d).trans (afterFree_context_other other ..), ?_, ?_, fun j tie ext => ?_, freed_state freed,
    ?_, fun unheard => ?_, fun quiet => ?_⟩
  · rw [exec_contextFree, whileRunning_running running, contextFree_due held closing second taken last]
  · rw [freed_slot_other freed apart, afterFree_slot, unbind_tie apart]
  · rw [freed_ext freed apart]
  · rw [freed_slot_other freed ext, afterFree_slot, unbind_other tie ext]
  · have kept := congrArg State.records (freed_rest freed)
    have stored := congrArg State.records free
    exact kept.trans stored
  · rw [freed.unheard (unheard.imp_right .inl), afterFree_slot, unbind_ext apart]
  · have closed : (afterFree c x x.cause s).events = _ := congrArg State.events free
    obtain same | ⟨reached, present, noticed⟩ := freed_heard_or freed
    · rw [same, closed]
    · obtain silent | gone | room := quiet
      · exact absurd (silent.symm.trans reached) nofun
      · exact absurd (present.symm.trans gone) nofun
      · have slot : (afterFree c x x.cause s).slot x.ext = _ := (afterFree_slot ..).trans (unbind_ext apart)
        by_cases kind : ((afterFree c x x.cause s).slot x.ext).kind = .extension
        · rw [(noticed.queued kind (by rw [slot]; exact room)).1, closed]
        · rw [noticed.deaf kind, closed]

/-! ### Closes -/

section
variable {c : ContextId} {x y : Context} {cause : CloseCause} {s : State}

/-- The state of a context that CLEAR blocks close: its derives withdrawn, its descrambler halted (R108). -/
def closed (c : ContextId) (x : Context) (cause : CloseCause) (s : State) : State :=
  (s.withEngine (s.engine.withdraw (Job.isDeriveOf c))).withContext c (some { x with
    phase := .closing, cause := some cause, descrambler := Descrambler.halted
    scrambler := { x.scrambler with state := .clearing, next := none, countdown := none, clearCount := 0 } })

/-- The state of a context that a close has freed at once (R108, R110). -/
def FreedAtOnce (c : ContextId) (x : Context) (cause : CloseCause) (s t : State) : Prop :=
  t.context c = none ∧ (∀ d, d ≠ c → t.context d = s.context d) ∧
    Freed c x (some cause) (s.withEngine (s.engine.withdraw (Job.isDeriveOf c))) t ∧
    t = { s with
      slots := t.slots, engine := s.engine.withdraw (Job.isDeriveOf c), contexts := t.contexts, events := t.events
      records := t.records }

theorem closeContext_clears (held : s.context c = some x) (phase : x.phase ≠ .closing) (taken : x.boundaryDue = false)
    (sends : x.scrambler.sending = true) (loud : cause.silent = false) : closeContext c cause s = closed c x cause s := by
  unfold closeContext
  rw [held]
  dsimp only
  rw [if_neg phase, sends, loud]
  have kept : (x.haltFor cause).startClearing = { x with
      phase := .closing, cause := some cause, descrambler := Descrambler.halted
      scrambler := { x.scrambler with state := .clearing, next := none, countdown := none, clearCount := 0 } } := by
    unfold Context.startClearing
    rw [show (x.haltFor cause).boundaryDue = false from taken]
    rfl
  rw [kept]
  rfl

theorem closeContext_silent (held : s.context c = some x) (phase : x.phase ≠ .closing)
    (silent : x.scrambler.sending = false) : closeContext c cause s =
      privacyOff (x.haltFor cause) (afterFree c x (some cause) (withdraw (Job.isDeriveOf c) s)) := by
  unfold closeContext
  rw [held]
  dsimp only
  rw [if_neg phase, silent, freeContext_haltFor]
  rfl

theorem freedAtOnce_privacyOff (c : ContextId) (x : Context) (cause : CloseCause) (s : State) : FreedAtOnce c x cause s
    (privacyOff (x.haltFor cause) (afterFree c x (some cause) (withdraw (Job.isDeriveOf c) s))) := by
  have halted := privacyOff_freed c (x.haltFor cause) (withdraw (Job.isDeriveOf c) s)
  have freed : Freed c x (some cause) (withdraw (Job.isDeriveOf c) s)
      (privacyOff (x.haltFor cause) (afterFree c x (some cause) (withdraw (Job.isDeriveOf c) s))) :=
    ⟨halted.heard, halted.unheard⟩
  exact ⟨(freed_context freed c).trans (afterFree_context ..),
    fun d other => ((freed_context freed d).trans (afterFree_context_other other ..)).trans (context_withdraw ..), freed,
    freed_state freed⟩

theorem closeContext_freedAtOnce (held : s.context c = some x) (phase : x.phase ≠ .closing)
    (silent : x.scrambler.sending = false) : FreedAtOnce c x cause s (closeContext c cause s) := by
  rw [closeContext_silent held phase silent]
  exact freedAtOnce_privacyOff c x cause s

/-- A close does not look at the descrambler that it halts. -/
theorem closeContext_withDescrambler (held : s.context c = some x) (d : Descrambler) :
    closeContext c cause (s.withContext c (some { x with descrambler := d })) =
      if x.phase = .closing then s.withContext c (some { x with descrambler := d }) else closeContext c cause s := by
  unfold closeContext
  rw [context_withContext_self, held]
  dsimp only
  by_cases phase : x.phase = .closing
  · rw [if_pos phase, if_pos phase]
  · rw [if_neg phase, if_neg phase, if_neg phase]
    have kept (z : Context) : (withdraw (Job.isDeriveOf c)
        (s.withContext c (some { x with descrambler := d }))).withContext c (some z) =
          (withdraw (Job.isDeriveOf c) s).withContext c (some z) :=
      withContext_withContext (withdraw (Job.isDeriveOf c) s) ..
    rw [kept, kept]
    rfl

/-! ### The commands that close -/

theorem exec_huntTimeout : ∀ (c : ContextId) (s : State),
    exec (.huntTimeout c) s = whileRunning (huntTimeout c) s := by
  intros; rfl

theorem exec_clearGuardExpiry : ∀ (c : ContextId) (side : GuardSide) (s : State),
    exec (.clearGuardExpiry c side) s = whileRunning (clearGuardExpiry c side) s := by
  intros; rfl

theorem exec_huntMarkerFound : ∀ (c : ContextId) (s : State),
    exec (.huntMarkerFound c) s = whileRunning (huntMarkerFound c) s := by
  intros; rfl

theorem exec_markerFrame : ∀ (c : ContextId) (s : State),
    exec (.markerFrame c) s = whileRunning (markerFrame c) s := by
  intros; rfl

theorem exec_closePrivacy : ∀ (body : List Byte) (s : State),
    exec (.closePrivacy body) s = whileRunning (request 0x43 1 closePrivacy body) s := by
  intros; rfl

theorem huntTimeout_due {n : Nat} (held : s.context c = some x) (phase : x.phase ≠ .closing)
    (hunts : x.descrambler.hunt = some n) (limit : x.profile.huntLimit ≤ n) :
    huntTimeout c s = closeContext c .noSync s := by
  rw [huntTimeout, held]
  exact if_pos ⟨phase, by rw [hunts]; exact decide_eq_true limit⟩

theorem clearGuardExpiry_due {side : GuardSide} (held : s.context c = some x) (phase : x.phase ≠ .closing)
    (later : x.elapsed ≠ 0) (observed : s.highway.observed = true)
    (settled : (s.slot (x.guarded side)).changeDue = false)
    (guard : x.profile.clearGuard ≤ (s.slot (x.guarded side)).idle) :
    clearGuardExpiry c side s = closeContext c (guardCause side) s := by
  rw [clearGuardExpiry, held]
  exact if_pos ⟨phase, later, by rw [idleUpToDate, observed, settled]; rfl, guard⟩

theorem huntMarkerFound_some {m : Marker} (held : s.context c = some x) (phase : x.phase ≠ .closing)
    (locked : s.highway.timing = .locked) (hunts : x.descrambler.state = .hunt)
    (found : readMarker (x.descrambler.window.map Prod.fst) = some m) : huntMarkerFound c s =
      match m.kind with
      | .clear => closeContext c .farClear s
      | .data => huntData c m x s
      | .announce => huntAnnounce c m x s := by
  rw [huntMarkerFound, held]
  dsimp only
  rw [if_pos ⟨locked, phase, hunts⟩, Descrambler.windowMarker, found] <;> rfl

theorem huntMarkerFound_clear {m : Marker} (held : s.context c = some x) (phase : x.phase ≠ .closing)
    (locked : s.highway.timing = .locked) (hunts : x.descrambler.state = .hunt)
    (found : readMarker (x.descrambler.window.map Prod.fst) = some m) (clear : m.kind = .clear) :
    huntMarkerFound c s = closeContext c .farClear s := by
  rw [huntMarkerFound_some held phase locked hunts found, clear]

theorem keySwitch_window (d : Descrambler) : d.keySwitch.window = d.window := by
  unfold Descrambler.keySwitch
  repeat' split
  all_goals rfl

/-- A CLEAR marker closes the context, whatever a key switch has made of the descrambler (R148). -/
theorem markerFrame_clear {m : Marker} (held : s.context c = some x) (phase : x.phase ≠ .closing)
    (due : x.descrambler.markerDue = true)
    (found : readMarker (x.descrambler.window.map Prod.fst) = some m) (clear : m.kind = .clear) :
    markerFrame c s = closeContext c .farClear s := by
  have window : Descrambler.windowMarker { x.descrambler.keySwitch with markerDue := false } = some m := by
    unfold Descrambler.windowMarker
    dsimp only
    rw [keySwitch_window, found]
  have isClear : (some m).any (fun m => m.kind == .clear) = true := by rw [Option.any_some, clear]; rfl
  unfold markerFrame
  rw [held]
  dsimp only
  rw [if_pos due, window, if_pos isClear, onDescrambler_held held, closeContext_withDescrambler held, if_neg phase]

theorem closePrivacy_held {body : List Byte} (index : byteAt body 0 = c.val) (held : s.context c = some x)
    (phase : x.phase ≠ .closing) : closePrivacy body s = ok (closeContext c .management s) := by
  rw [closePrivacy, indexOf_of_eq_val index]
  dsimp only
  rw [held]
  exact if_neg phase

theorem closePrivacy_wrongState {body : List Byte} (index : byteAt body 0 = c.val)
    (ended : s.context c = none ∨ ∃ x, s.context c = some x ∧ x.phase = .closing) :
    closePrivacy body s = refusedWith .wrongState s := by
  rw [closePrivacy, indexOf_of_eq_val index]
  dsimp only
  obtain free | ⟨x, held, closing⟩ := ended
  · rw [free]
  · rw [held]
    exact if_pos closing

theorem closePrivacy_illegal {body : List Byte} (high : 63 < byteAt body 0) :
    closePrivacy body s = refusedWith .badArgument s := by
  rw [closePrivacy, indexOf_eq_none_of_le (size := 64) high]

theorem sending_iff (sc : Scrambler) : sc.sending = true ↔ sc.state = .running ∨ sc.state = .announcing := by
  unfold Scrambler.sending
  cases sc.state <;> simp

/-- Each command that closes a context acts as a close with its cause. -/
theorem closing_commands (running : Running s) (held : s.context c = some x) (phase : x.phase ≠ .closing) :
    (∀ n, x.descrambler.hunt = some n → x.profile.huntLimit ≤ n →
      exec (.huntTimeout c) s = .next (closeContext c .noSync s)) ∧
    (∀ side : GuardSide, x.elapsed ≠ 0 → s.highway.observed = true → (s.slot (x.guarded side)).changeDue = false →
      x.profile.clearGuard ≤ (s.slot (x.guarded side)).idle →
      exec (.clearGuardExpiry c side) s = .next (closeContext c (guardCause side) s)) ∧
    (∀ m, readMarker (x.descrambler.window.map Prod.fst) = some m → m.kind = .clear → s.highway.timing = .locked →
      x.descrambler.state = .hunt → exec (.huntMarkerFound c) s = .next (closeContext c .farClear s)) ∧
    (∀ m, readMarker (x.descrambler.window.map Prod.fst) = some m → m.kind = .clear →
      x.descrambler.markerDue = true → exec (.markerFrame c) s = .next (closeContext c .farClear s)) ∧
    (Accepts s → exec (.closePrivacy [byte c]) s = .next (answered 0x43 .ok [] (closeContext c .management s))) := by
  refine ⟨fun n hunts limit => ?_, fun side later observed settled guard => ?_, fun m found clear locked hunts => ?_,
    fun m found clear due => ?_, fun accepts => ?_⟩
  · rw [exec_huntTimeout, whileRunning_running running, huntTimeout_due held phase hunts limit]
  · rw [exec_clearGuardExpiry, whileRunning_running running,
      clearGuardExpiry_due held phase later observed settled guard]
  · rw [exec_huntMarkerFound, whileRunning_running running, huntMarkerFound_clear held phase locked hunts found clear]
  · rw [exec_markerFrame, whileRunning_running running, markerFrame_clear held phase due found clear]
  · rw [exec_closePrivacy]
    exact whileRunning_request_blind accepts rfl (closeContext_portBlind c .management)
      (closePrivacy_held (s := huntPort s) (byte_fin_toNat c (by decide)) held phase)

end

/-- Settles O44: `closing_commands`, and the two ends of a close. -/
theorem guardsTimeoutsAndRequestsClose : Obligations.GuardsTimeoutsAndRequestsClose := by
  refine ⟨fun c x s running held phase => ?_, fun body s accepts length => ⟨fun high => ?_, fun c index ended => ?_⟩⟩
  · obtain ⟨timeout, guard, hunted, framed, asked⟩ := closing_commands running held phase
    refine ⟨fun taken sends => ?_, fun silent => ?_⟩
    · have close (cause : CloseCause) (loud : cause.silent = false) :
          closeContext c cause s = closed c x cause s :=
        closeContext_clears held phase taken ((sending_iff _).mpr sends) loud
      rw [close _ rfl] at hunted framed asked
      exact ⟨fun n hunts limit => (timeout n hunts limit).trans (congrArg _ (close _ rfl)),
        fun later observed settled idle => (guard .extension later observed settled idle).trans
          (congrArg _ (close _ rfl)),
        fun later observed settled idle => (guard .tie later observed settled idle).trans (congrArg _ (close _ rfl)),
        fun ⟨m, found, clear⟩ => hunted m found clear, fun ⟨m, found, clear⟩ => framed m found clear, asked⟩
    · have free (cause : CloseCause) : FreedAtOnce c x cause s (closeContext c cause s) := by
        refine closeContext_freedAtOnce held phase ?_
        rw [← Bool.not_eq_true, sending_iff]
        obtain keying | rekeying := silent <;> simp [*]
      exact ⟨fun n hunts limit => ⟨_, timeout n hunts limit, free _⟩,
        fun later observed settled idle => ⟨_, guard .extension later observed settled idle, free _⟩,
        fun later observed settled idle => ⟨_, guard .tie later observed settled idle, free _⟩,
        fun ⟨m, found, clear⟩ locked hunts => ⟨_, hunted m found clear locked hunts, free _⟩,
        fun ⟨m, found, clear⟩ due => ⟨_, framed m found clear due, free _⟩,
        fun accepts => ⟨_, asked accepts, free _⟩⟩
  · rw [exec_closePrivacy]
    exact whileRunning_request_refused accepts length (closePrivacy_illegal high)
  · rw [exec_closePrivacy]
    exact whileRunning_request_refused accepts length (closePrivacy_wrongState (s := huntPort s) index ended)

end Sys2Proof.Machine
end

section
/-! PROOFS. The test of privacy, the scrambler's boundaries around a key, and the marker that a hunting descrambler
finds. -/

namespace Sys2Proof.Machine

open Sys2Proof.Safety

/-! ### The test of privacy -/

section
variable {c : ContextId} {x : Context} {s : State}

theorem testPrivacy_establishes (held : s.context c = some x) (phase : x.phase ≠ .closing) (first : x.reached = false)
    (sync : x.descrambler.state = .sync) (sends : x.scrambler.sending = true) : testPrivacy c s =
      requestFunction .privacyOn x.ext (enqueue x.ext (noticeMessage .privacyOn)
        (post .privacyUp (some x.tie) (some c) (some x.index) 0
          (s.withContext c (some { x with reached := true })))) := by
  unfold testPrivacy
  rw [held]
  dsimp only
  rw [if_pos ⟨phase, first, sync, sends⟩, onContext_held held]

theorem testPrivacy_idle (held : s.context c = some x)
    (idle : x.phase = .closing ∨ x.reached = true ∨ x.descrambler.state ≠ .sync ∨ x.scrambler.sending = false) :
    testPrivacy c s = s := by
  unfold testPrivacy
  rw [held]
  refine if_neg fun ⟨phase, first, sync, sends⟩ => ?_
  obtain h | h | h | h := idle
  · exact phase h
  · exact absurd (first.symm.trans h) nofun
  · exact h sync
  · exact absurd (h.symm.trans sends) nofun

theorem testPrivacy_tests (held : s.context c = some x) : TestsPrivacy c x s (testPrivacy c s) := by
  constructor
  · intro phase first sync sends
    rw [testPrivacy_establishes held phase first sync ((sending_iff _).mpr sends)]
    have noticed := noticed_of_notice .privacyOn .privacyOn x.ext
      (post .privacyUp (some x.tie) (some c) (some x.index) 0 (s.withContext c (some { x with reached := true })))
    rw [post_tones] at noticed
    exact noticed
  · intro otherwise
    refine testPrivacy_idle held (otherwise.imp_right (Or.imp_right (Or.imp_right fun silent => ?_)))
    rw [← Bool.not_eq_true, sending_iff, not_or]
    exact silent

end

/-! ### The boundaries around a key -/

section
variable {c : ContextId} {x : Context} {n : NextKey} {w : KeyWords} {k : CallKey} {sc : Scrambler} {s : State}

theorem boundaryTaken_held (held : s.context c = some x) (sc : Scrambler) :
    boundaryTaken c sc s = s.withContext c (some { x with boundaryDue := false, scrambler := sc }) :=
  onContext_held held _

theorem nextReady_of_ready (next : sc.next = some n) (words : n.words = some w) (fresh : n.fresh = false) :
    sc.nextReady = true := by
  rw [Scrambler.nextReady, next, Option.any_some, words, fresh]
  rfl

theorem nextReady_of_unready (unready : ∀ n, sc.next = some n → n.words = none ∨ n.fresh = true) :
    sc.nextReady = false := by
  unfold Scrambler.nextReady
  cases next : sc.next with
  | none => rfl
  | some n =>
    rw [Option.any_some]
    obtain absent | fresh := unready n next
    · rw [absent]
      rfl
    · rw [fresh, Bool.not_true, Bool.and_false]

theorem switchKey_ready (next : sc.next = some n) (words : n.words = some w) : sc.switchKey = { sc with
    state := .running, current := some { nonce := n.nonce, epoch := n.epoch, words := w }, next := none
    last := none, countdown := none } := by
  obtain ⟨nonce, epoch, keyWords, fresh⟩ := n
  obtain rfl : keyWords = some w := words
  rw [Scrambler.switchKey, next]

theorem nextCounter_last {last : Word} (sent : sc.last = some last) : sc.nextCounter = last + 1 := by
  rw [Scrambler.nextCounter, sent]

theorem emitAnnounce_keyed {last : Word} (p : Profile) (countdown : Nat) (current : sc.current = some k)
    (next : sc.next = some n) (sent : sc.last = some last) : sc.emitAnnounce p countdown = { sc with
      state := .announcing, last := some (last + 1), countdown := some countdown
      emission := .block
        { kind := .announce, epoch := k.epoch, counter := last + 1, nonce := n.nonce
          countdown := BitVec.ofNat 4 countdown }
        (scramble p.segment p.masking k.words (last + 1) sc.collected) } := by
  rw [Scrambler.emitAnnounce, current, next, nextCounter_last sent]

/-! Each state's boundary. -/

theorem keyingBoundary_ready (held : s.context c = some x) (next : x.scrambler.next = some n)
    (words : n.words = some w) (fresh : n.fresh = false) : keyingBoundary c x s =
      testPrivacy c (s.withContext c (some { x with
        phase := .opened, boundaryDue := false
        scrambler := { x.scrambler with
          state := .running, current := some { nonce := n.nonce, epoch := n.epoch, words := w }
          next := none, last := none, countdown := none, emission := .idle } })) := by
  unfold keyingBoundary
  dsimp only
  rw [if_pos (nextReady_of_ready next words fresh), onContext_held held, switchKey_ready next words]

theorem keyingBoundary_waits (held : s.context c = some x)
    (unready : ∀ n, x.scrambler.next = some n → n.words = none ∨ n.fresh = true) : keyingBoundary c x s =
      s.withContext c (some { x with boundaryDue := false, scrambler := { x.scrambler with emission := .idle } }) := by
  unfold keyingBoundary
  dsimp only
  rw [nextReady_of_unready unready, if_neg Bool.false_ne_true, boundaryTaken_held held]

theorem announceLast_toNat : Config.announceLast.toNat = 65532 := by decide

theorem succ_toNat {last : Word} (below : last ≠ 0xFFFF) : (last + 1).toNat = last.toNat + 1 := by
  bv_omega

theorem some_ne_max {last : Word} (below : last ≠ 0xFFFF) : ¬some last = some 0xFFFF :=
  fun same => below (Option.some.inj same)

theorem rekeyingBoundary_announces {last : Word} (held : s.context c = some x) (next : x.scrambler.next = some n)
    (words : n.words = some w) (fresh : n.fresh = false)
    (sent : x.scrambler.last = some last) (early : last.toNat < 65532) : rekeyingBoundary c x s =
      testPrivacy c (s.withContext c (some { x with
        boundaryDue := false, scrambler := x.scrambler.emitAnnounce x.profile 3 })) := by
  have below : last ≠ 0xFFFF := by
    rintro rfl
    exact absurd early (by decide)
  have allowed : x.scrambler.nextCounter.toNat ≤ Config.announceLast.toNat := by
    rw [nextCounter_last sent, succ_toNat below, announceLast_toNat]
    exact early
  unfold rekeyingBoundary
  dsimp only
  rw [sent, if_neg (some_ne_max below), if_pos ⟨nextReady_of_ready next words fresh, allowed⟩, boundaryTaken_held held]

theorem rekeyingBoundary_data {last : Word} (held : s.context c = some x)
    (goes : (∀ n, x.scrambler.next = some n → n.words = none ∨ n.fresh = true) ∨ 65532 ≤ last.toNat)
    (sent : x.scrambler.last = some last) (below : last ≠ 0xFFFF) : rekeyingBoundary c x s =
      s.withContext c (some { x with boundaryDue := false, scrambler := x.scrambler.emitData x.profile }) := by
  unfold rekeyingBoundary
  dsimp only
  rw [sent, if_neg (some_ne_max below), if_neg, boundaryTaken_held held]
  rintro ⟨ready, early⟩
  obtain unready | late := goes
  · exact Bool.false_ne_true ((nextReady_of_unready unready).symm.trans ready)
  · rw [nextCounter_last sent, succ_toNat below, announceLast_toNat] at early
    omega

/-- Past block 65535 the context is freed at once (R131). -/
theorem rekeyingBoundary_exhausted (held : s.context c = some x) (rekeying : x.scrambler.state = .rekeying)
    (sent : x.scrambler.last = some 0xFFFF) (phase : x.phase = .opened) :
    FreedAtOnce c x .exhausted s (rekeyingBoundary c x s) := by
  have open' : x.phase ≠ .closing := by rw [phase]; decide
  have silent : x.scrambler.sending = false := by rw [Scrambler.sending, rekeying]; rfl
  let y : Context := { x with boundaryDue := false, scrambler := x.scrambler }
  have apart : withdraw (Job.isDeriveOf c) (s.withContext c (some y)) =
      (withdraw (Job.isDeriveOf c) s).withContext c (some y) := rfl
  have taken : rekeyingBoundary c x s =
      privacyOff (y.haltFor .exhausted) (afterFree c y (some .exhausted) (withdraw (Job.isDeriveOf c) s)) := by
    unfold rekeyingBoundary
    dsimp only
    rw [if_pos sent, boundaryTaken_held held,
      closeContext_silent (x := y) (context_withContext_self ..) open' silent, apart]
    exact congrArg (privacyOff _) (afterFree_withContext c (y.haltFor .exhausted) _ _)
  obtain ⟨free, others, freed, rest⟩ := freedAtOnce_privacyOff c y .exhausted s
  rw [taken]
  exact ⟨free, others, ⟨freed.heard, freed.unheard⟩, rest⟩

theorem assignBlock_counts {left : Nat} (announcing : x.scrambler.state = .announcing)
    (count : x.scrambler.countdown = some (left + 1)) :
    x.assignBlock = { x with scrambler := x.scrambler.emitAnnounce x.profile left, boundaryDue := false } := by
  unfold Context.assignBlock
  dsimp only
  rw [announcing, count]

theorem assignBlock_switches (announcing : x.scrambler.state = .announcing) (count : x.scrambler.countdown = some 0) :
    x.assignBlock = { x with
      scrambler := x.scrambler.switchKey.emitData x.profile
      rekeys := raise Config.count16Max x.rekeys
      boundaryDue := false } := by
  unfold Context.assignBlock
  dsimp only
  rw [announcing, count]

theorem switchKey_emitData (p : Profile) (next : sc.next = some n) (words : n.words = some w) :
    sc.switchKey.emitData p = { sc with
      state := .running, current := some { nonce := n.nonce, epoch := n.epoch, words := w }
      next := none, last := some 0, countdown := none
      emission := .block { kind := .data, epoch := n.epoch, counter := 0, nonce := n.nonce, countdown := 0xF }
        (scramble p.segment p.masking w 0 sc.collected) } := by
  rw [switchKey_ready next words]
  rfl

theorem announcingBoundary_counts {left : Nat} {last : Word} (announcing : x.scrambler.state = .announcing)
    (count : x.scrambler.countdown = some (left + 1)) (current : x.scrambler.current = some k)
    (next : x.scrambler.next = some n) (sent : x.scrambler.last = some last) : announcingBoundary c x s =
      s.withContext c (some { x with
        scrambler := x.scrambler.emitAnnounce x.profile left, boundaryDue := false }) := by
  unfold announcingBoundary
  rw [assignBlock_counts announcing count, emitAnnounce_keyed x.profile left current next sent]
  exact if_neg nofun

theorem announcingBoundary_switches (announcing : x.scrambler.state = .announcing)
    (count : x.scrambler.countdown = some 0) (next : x.scrambler.next = some n) (words : n.words = some w) :
    announcingBoundary c x s = testPrivacy c (s.withContext c (some { x with
      scrambler := x.scrambler.switchKey.emitData x.profile
      rekeys := raise Config.count16Max x.rekeys
      boundaryDue := false })) := by
  unfold announcingBoundary
  rw [assignBlock_switches announcing count, switchKey_emitData x.profile next words]
  exact if_pos rfl

theorem clearingBoundary_eq (held : s.context c = some x) (current : x.scrambler.current = some k) :
    clearingBoundary c x s = s.withContext c (some { x with
      boundaryDue := false
      scrambler := { x.scrambler with
        clearCount := min (x.scrambler.clearCount + 1) 2
        emission := .block { kind := .clear, epoch := k.epoch, counter := 0xFFFF, nonce := k.nonce, countdown := 0xF }
          (List.replicate (8 * x.profile.segment) 0) } }) := by
  have marker : x.scrambler.clearMarker =
      { kind := .clear, epoch := k.epoch, counter := 0xFFFF, nonce := k.nonce, countdown := 0xF } := by
    rw [Scrambler.clearMarker, current]
    rfl
  unfold clearingBoundary
  dsimp only
  rw [boundaryTaken_held held, marker]
  rfl

end

/-- Settles O39: each state's boundary, with `testPrivacy_tests` where a key is entered on. -/
theorem keyBoundariesAnnounceAndSwitch : Obligations.KeyBoundariesAnnounceAndSwitch := by
  intro c x s running held due ready unready block enters stays
  have boundary : exec (.blockBoundary c) s = .next (blockBoundary c s) := by
    rw [exec_blockBoundary, whileRunning_running running]
  rw [blockBoundary_due held due] at boundary
  have entered {y : Context} (leads : exec (.blockBoundary c) s = .next (testPrivacy c (s.withContext c (some y)))) :
      enters y := ⟨_, leads, testPrivacy_tests (context_withContext_self ..)⟩
  refine ⟨fun n w ⟨next, words, fresh⟩ state => entered ?_, fun waits state => ?_,
    fun n w k last ⟨next, words, fresh⟩ state current sent early => entered ?_,
    fun k last goes state current sent below => ?_, fun n k last left state next current sent count => ?_,
    fun n w ⟨next, words, fresh⟩ state count => entered ?_, fun state sent phase => ?_, fun k state current => ?_⟩
  all_goals rw [state] at boundary
  · exact boundary.trans (congrArg _ (keyingBoundary_ready held next words fresh))
  · exact boundary.trans (congrArg _ (keyingBoundary_waits held waits))
  · refine boundary.trans (congrArg _ ?_)
    dsimp only
    rw [rekeyingBoundary_announces held next words fresh sent early,
      emitAnnounce_keyed x.profile 3 current next sent]
    rfl
  · refine boundary.trans (congrArg _ ?_)
    dsimp only
    rw [rekeyingBoundary_data held goes sent below, emitData_keyed x.profile current, nextCounter_last sent]
  · refine boundary.trans (congrArg _ ?_)
    dsimp only
    rw [announcingBoundary_counts state count current next sent, emitAnnounce_keyed x.profile left current next sent,
      ← state]
  · refine boundary.trans (congrArg _ ?_)
    dsimp only
    rw [announcingBoundary_switches state count next words, switchKey_emitData x.profile next words]
    rfl
  · exact ⟨_, boundary, rekeyingBoundary_exhausted held state sent phase⟩
  · exact boundary.trans (congrArg _ (clearingBoundary_eq held current))

/-! ### A descrambler set in its context -/

section
variable {c : ContextId} {x : Context} {d : Descrambler} {s : State}

/-- Context `c`, which is `x`, with descrambler `d`. -/
def placed (c : ContextId) (x : Context) (d : Descrambler) (s : State) : State :=
  s.withContext c (some { x with descrambler := d })

@[simp] theorem context_placed (c : ContextId) (x : Context) (d : Descrambler) (s : State) :
    (placed c x d s).context c = some { x with descrambler := d } := context_withContext_self ..

theorem onDescrambler_placed (f : Descrambler → Descrambler) :
    onDescrambler c f (placed c x d s) = placed c x (f d) s := by
  rw [onDescrambler_held (context_placed ..)]
  exact withContext_withContext ..

theorem onDescrambler_eq_placed (held : s.context c = some x) (f : Descrambler → Descrambler) :
    onDescrambler c f s = placed c x (f x.descrambler) s := onDescrambler_held held f

/-- What the engine is asked for when a key is sought (R143, R145). -/
def Engine.seeks (c : ContextId) (x : Context) (nonce : BitVec 24) (epoch : Nibble) (e : Engine) : Engine :=
  (e.withdraw (Job.isRxOf c)).post (.rxKey c x.site nonce epoch)

theorem seekKey_placed (nonce : BitVec 24) (epoch : Nibble) (countdown : Option Nat) :
    seekKey c nonce epoch countdown (placed c x d s) =
      placed c x { d with
        pending := some { nonce := nonce, epoch := epoch, countdown := countdown, words := none }
        sighted := d.pending.isNone && d.sighted } (s.withEngine (s.engine.seeks c x nonce epoch)) := by
  have apart : withdraw (Job.isRxOf c) (placed c x d s) = placed c x d (withdraw (Job.isRxOf c) s) := rfl
  unfold seekKey
  rw [context_placed]
  dsimp only
  rw [apart, onDescrambler_placed]
  rfl

theorem takeAnnouncement_placed (m : Marker) (pending : d.pending = x.descrambler.pending) :
    takeAnnouncement c m (placed c x d s) =
      placed c x (announcedTo m d) (s.withEngine (announcedAsks c x m s.engine)) := by
  unfold takeAnnouncement announcedTo announcedAsks
  rw [context_placed, Option.any_some, ← pending]
  dsimp only
  cases held : d.pending with
  | none =>
    rw [Option.any_none, if_neg Bool.false_ne_true, if_neg Bool.false_ne_true, seekKey_placed, held]
    rfl
  | some p =>
    rw [Option.any_some]
    by_cases known : p.nonce = m.nonce ∧ p.epoch = m.epoch + 1
    · have same : (p.nonce == m.nonce && p.epoch == m.epoch + 1) = true := by simp [known]
      rw [if_pos same, if_pos same, onDescrambler_placed, held]
      dsimp only
      rw [if_pos known]
      rfl
    · have other : ¬(p.nonce == m.nonce && p.epoch == m.epoch + 1) = true := by
        simpa only [Bool.and_eq_true, beq_iff_eq] using known
      rw [if_neg other, if_neg other, seekKey_placed, held]
      dsimp only
      rw [if_neg known]
      rfl

theorem dropSought_placed_announced (announced : ∀ p, d.pending = some p → p.countdown.isSome) :
    dropSought c (placed c x d s) = placed c x d s := by
  unfold dropSought
  rw [context_placed, Option.any_some]
  refine if_neg ?_
  dsimp only
  cases held : d.pending with
  | none => exact Bool.false_ne_true
  | some p => simp [Option.isSome_iff_ne_none.mp (announced p held)]

theorem dropSought_placed_sought {p : PendingKey} (held : d.pending = some p) (sought : p.countdown = none) :
    dropSought c (placed c x d s) =
      placed c x { d with pending := none } (s.withEngine (s.engine.withdraw (Job.isRxOf c))) := by
  have apart : withdraw (Job.isRxOf c) (placed c x d s) = placed c x d (withdraw (Job.isRxOf c) s) := rfl
  have isSought : (some { x with descrambler := d }).any
      (fun x => x.descrambler.pending.any fun p => p.countdown.isNone) = true := by
    rw [Option.any_some]
    dsimp only
    rw [held, Option.any_some, sought]
    rfl
  unfold dropSought
  rw [context_placed]
  dsimp only
  rw [isSought, if_pos rfl, apart, onDescrambler_placed]
  rfl

theorem enterKeywait_placed : enterKeywait c (placed c x d s) =
    placed c x { d with state := .keywait, miss := 0, sighted := false } s :=
  onDescrambler_placed _

theorem enterSync_placed (n : Word) : enterSync c n (placed c x d s) =
    testPrivacy c (placed c x { d.accept n with state := .sync, miss := 0, hunt := none } s) :=
  congrArg (testPrivacy c) (onDescrambler_placed _)

/-- An entry to PRESYNC, or through it to SYNC (R143, R149). -/
theorem enterPresync_placed (n : Word) : enterPresync c n (placed c x d s) =
    if x.profile.presync ≤ 1 then
      testPrivacy c (placed c x { d.accept n with state := .sync, good := 1, miss := 0, hunt := none } s)
    else placed c x { d with state := .presync, good := 1 } s := by
  unfold enterPresync
  rw [context_placed]
  dsimp only
  rw [onDescrambler_placed, enterSync_placed]
  rfl

theorem enterPresync_joins (n : Word) : JoinsPresync c x n d s (enterPresync c n (placed c x d s)) := by
  rw [enterPresync_placed]
  constructor
  · intro several
    rw [if_neg (by omega)]
    rfl
  · intro one y
    rw [if_pos one]
    exact testPrivacy_tests (context_placed ..)

end

/-! ### A marker found in HUNT -/

section
variable {c : ContextId} {x : Context} {m : Marker} {s : State}

theorem huntMarkerFound_nothing (held : s.context c = some x)
    (nothing : s.highway.timing ≠ .locked ∨ readMarker (x.descrambler.window.map Prod.fst) = none) :
    huntMarkerFound c s = s := by
  unfold huntMarkerFound
  rw [held]
  dsimp only
  obtain unlocked | empty := nothing
  · exact if_neg fun found => unlocked found.1
  · split
    · rw [Descrambler.windowMarker, empty]
    · rfl

/-- The phase that a marker fixes, with the switch it announces (R143, R144). -/
theorem fixPhase_eq (m : Marker) (d : Descrambler) : d.fixPhase m = { d with
    offset := some 15, buffer := d.window.map Prod.snd
    expected := some (if m.kind = .announce ∧ m.countdown = 0 then 0 else m.counter + 1)
    switchDue := decide (m.kind = .announce ∧ m.countdown = 0) } := by
  have switching : (m.kind == .announce && m.countdown == 0) = decide (m.kind = .announce ∧ m.countdown = 0) := by
    rw [Bool.eq_iff_iff]
    simp
  unfold Descrambler.fixPhase
  dsimp only
  rw [switching]
  simp only [decide_eq_true_eq]
  rfl

theorem namesKey_iff (k : CallKey) (data : m.kind = .data) :
    m.namesKey k = true ↔ m.nonce = k.nonce ∧ m.epoch = k.epoch := by
  simp [Marker.namesKey, data]

theorem namesPending_iff (p : PendingKey) (data : m.kind = .data) :
    m.namesPending p = true ↔ m.nonce = p.nonce ∧ m.epoch = p.epoch := by
  simp [Marker.namesPending, data]

theorem namesCurrent_iff (k : CallKey) (announce : m.kind = .announce) :
    m.namesCurrent k = true ↔ m.epoch = k.epoch := by
  simp [Marker.namesCurrent, announce]

theorem any_eq_false {α : Type} {o : Option α} {p : α → Bool} (none : ∀ a, o = some a → ¬p a = true) :
    ¬o.any p = true := by
  rw [Option.any_eq_true]
  exact fun ⟨a, held, named⟩ => none a held named

theorem any_of_some {α : Type} {o : Option α} {p : α → Bool} {a : α} (held : o = some a) (named : p a = true) :
    o.any p = true := by
  rw [held, Option.any_some, named]

theorem huntData_held {k : CallKey} (held : s.context c = some x) (key : x.descrambler.held = some k)
    (named : m.namesKey k = true) : huntData c m x s =
      enterPresync c m.counter (dropSought c (placed c x (x.descrambler.fixPhase m) s)) := by
  unfold huntData
  dsimp only
  rw [if_pos (any_of_some key named), onDescrambler_eq_placed held]

theorem huntData_pending {p : PendingKey} (held : s.context c = some x)
    (unheld : ∀ k, x.descrambler.held = some k → ¬m.namesKey k = true) (pending : x.descrambler.pending = some p)
    (named : m.namesPending p = true) : huntData c m x s =
      if p.words.isSome then
        enterPresync c m.counter (placed c x (x.descrambler.fixPhase m).namePending s)
      else enterKeywait c (placed c x (x.descrambler.fixPhase m).namePending s) := by
  unfold huntData
  dsimp only
  rw [if_neg (any_eq_false unheld), if_pos (any_of_some pending named), onDescrambler_eq_placed held,
    onDescrambler_placed, pending, Option.any_some]

theorem huntData_unknown (held : s.context c = some x)
    (unheld : ∀ k, x.descrambler.held = some k → ¬m.namesKey k = true)
    (unsought : ∀ p, x.descrambler.pending = some p → ¬m.namesPending p = true) : huntData c m x s =
      enterKeywait c (seekKey c m.nonce m.epoch none (placed c x (x.descrambler.fixPhase m) s)) := by
  unfold huntData
  dsimp only
  rw [if_neg (any_eq_false unheld), if_neg (any_eq_false unsought), onDescrambler_eq_placed held]

theorem huntAnnounce_eq (held : s.context c = some x) : huntAnnounce c m x s =
    if x.descrambler.held.any m.namesCurrent then
      enterPresync c m.counter (placed c x (announcedTo m (x.descrambler.fixPhase m))
        (s.withEngine (announcedAsks c x m s.engine)))
    else enterKeywait c (placed c x (announcedTo m (x.descrambler.fixPhase m))
        (s.withEngine (announcedAsks c x m s.engine))) := by
  have kept : (x.descrambler.fixPhase m).pending = x.descrambler.pending := rfl
  unfold huntAnnounce
  dsimp only
  rw [onDescrambler_eq_placed held, takeAnnouncement_placed m kept]

theorem namePending_delivered {d : Descrambler} {p : PendingKey} {w : KeyWords} (pending : d.pending = some p)
    (words : p.words = some w) : d.namePending =
      { d with held := some { nonce := p.nonce, epoch := p.epoch, words := w }, pending := none } := by
  obtain ⟨nonce, epoch, countdown, keyWords⟩ := p
  obtain rfl : keyWords = some w := words
  rw [Descrambler.namePending, pending]

theorem namePending_awaited {d : Descrambler} {p : PendingKey} (pending : d.pending = some p)
    (awaited : p.words = none) : d.namePending = { d with pending := some { p with countdown := none } } := by
  obtain ⟨nonce, epoch, countdown, keyWords⟩ := p
  obtain rfl : keyWords = none := awaited
  rw [Descrambler.namePending, pending]

end

/-- Settles O42: the marker found is `huntMarkerFound_some`, and each way of naming a key has its equation. -/
theorem huntingTakesADataMarker : Obligations.HuntingTakesADataMarker := by
  intro c x s running held phase hunts
  refine ⟨fun nothing => ?_, fun m locked found => ?_⟩
  · rw [exec_huntMarkerFound, whileRunning_running running, huntMarkerFound_nothing held nothing]
  intro fixed joins waits
  have fix : x.descrambler.fixPhase m = fixed := fixPhase_eq m x.descrambler
  have act : exec (.huntMarkerFound c) s = .next (huntMarkerFound c s) := by
    rw [exec_huntMarkerFound, whileRunning_running running]
  rw [huntMarkerFound_some held phase locked hunts found] at act
  have joined {e : Engine} {d : Descrambler} (leads : exec (.huntMarkerFound c) s =
      .next (enterPresync c m.counter (placed c x d (s.withEngine e)))) : joins e d := ⟨_, leads, enterPresync_joins _⟩
  have waited {e : Engine} {d : Descrambler} (leads : exec (.huntMarkerFound c) s =
      .next (enterKeywait c (placed c x d (s.withEngine e)))) : waits e d :=
    leads.trans (congrArg _ enterKeywait_placed)
  refine ⟨fun data => ⟨fun k key nonce epoch => ?_, fun unheld => ?_⟩, fun announce => ⟨fun k key epoch => ?_,
    fun unheld => ?_⟩⟩
  · rw [data] at act
    dsimp only at act
    rw [huntData_held held key ((namesKey_iff k data).mpr ⟨nonce, epoch⟩), fix] at act
    refine ⟨fun announced => joined (act.trans ?_), fun p pending sought => joined (act.trans ?_)⟩
    · rw [dropSought_placed_announced (d := fixed) announced]
      rfl
    · rw [dropSought_placed_sought (d := fixed) pending sought]
  · have unnamed (k : CallKey) (key : x.descrambler.held = some k) : ¬m.namesKey k = true := by
      rw [namesKey_iff k data, not_and_or]
      exact unheld k key
    rw [data] at act
    dsimp only at act
    refine ⟨fun p pending nonce epoch => ?_, fun unsought => waited (act.trans ?_)⟩
    · rw [huntData_pending held unnamed pending ((namesPending_iff p data).mpr ⟨nonce, epoch⟩), fix] at act
      refine ⟨fun w words => joined (act.trans ?_), fun awaited => waited (act.trans ?_)⟩
      · rw [words, namePending_delivered (d := fixed) pending words]
        rfl
      · rw [if_neg (by rw [awaited]; exact Bool.false_ne_true), namePending_awaited (d := fixed) pending awaited]
        rfl
    · have unnamed' (p : PendingKey) (pending : x.descrambler.pending = some p) : ¬m.namesPending p = true := by
        rw [namesPending_iff p data, not_and_or]
        exact unsought p pending
      rw [huntData_unknown held unnamed unnamed', fix, seekKey_placed, enterKeywait_placed, enterKeywait_placed]
      rfl
  · rw [announce] at act
    dsimp only at act
    rw [huntAnnounce_eq held, fix, if_pos (any_of_some key ((namesCurrent_iff k announce).mpr epoch))] at act
    exact joined act
  · have unnamed (k : CallKey) (key : x.descrambler.held = some k) : ¬m.namesCurrent k = true := by
      rw [namesCurrent_iff k announce]
      exact unheld k key
    rw [announce] at act
    dsimp only at act
    rw [huntAnnounce_eq held, fix, if_neg (any_eq_false unnamed)] at act
    exact waited act

end Sys2Proof.Machine
end

section
/-! PROOFS. The marker frame: the key switch, the judgement in each state of the descrambler, and the block restored. -/

namespace Sys2Proof.Machine

open Sys2Proof.Safety

/-! ### A judged frame -/

section
variable {c : ContextId} {x : Context} {d : Descrambler} {m : Marker} {s : State}

/-- A marker frame of context `c`, which is `x`, once the key switch has made its descrambler `d` (R148). -/
def judgedFrame (c : ContextId) (x : Context) (d : Descrambler) (s : State) : State :=
  let m := d.windowMarker
  if m.any (fun m => m.kind == .clear) then closeContext c .farClear (placed c x d s)
  else placed c x d s |> judgeMarker c x d m |> onDescrambler c (Descrambler.advanceExpected (tookSwitch d m))

/-- The descrambler with its marker frame judged. -/
def Descrambler.unmarked (d : Descrambler) : Descrambler := { d with markerDue := false }

theorem markerFrame_due (held : s.context c = some x) (due : x.descrambler.markerDue = true) :
    markerFrame c s = judgedFrame c x x.descrambler.keySwitch.unmarked s := by
  unfold markerFrame
  rw [held]
  dsimp only
  rw [if_pos due, onDescrambler_eq_placed held]
  rfl

/-- The judgement does not look at the descrambler that the switch replaced. -/
theorem judgedFrame_placed (e : Descrambler) :
    judgedFrame c { x with descrambler := e } d (placed c x e s) = judgedFrame c x d s := by
  have put : placed c { x with descrambler := e } d (placed c x e s) = placed c x d s := withContext_withContext ..
  have judge : judgeMarker c { x with descrambler := e } d d.windowMarker = judgeMarker c x d d.windowMarker := rfl
  unfold judgedFrame
  dsimp only
  rw [put, judge]

theorem keySwitch_none (still : d.switchDue = false) : d.keySwitch = d :=
  if_neg (by rw [still]; exact Bool.false_ne_true)

theorem keySwitch_delivered {p : PendingKey} {w : KeyWords} (due : d.switchDue = true) (pending : d.pending = some p)
    (words : p.words = some w) : d.keySwitch = { d with
      switchDue := false, held := some { nonce := p.nonce, epoch := p.epoch, words := w }, pending := none } := by
  obtain ⟨nonce, epoch, countdown, keyWords⟩ := p
  obtain rfl : keyWords = some w := words
  rw [Descrambler.keySwitch, if_pos due, pending]

theorem keySwitch_awaited {p : PendingKey} (due : d.switchDue = true) (pending : d.pending = some p)
    (awaited : p.words = none) : d.keySwitch = { d with
      switchDue := false, held := none, pending := some { p with countdown := none }, sighted := false
      state := .keywait, miss := if d.state = .keywait then d.miss else 0
      hunt := if d.state = .sync ∨ d.state = .flywheel then some 0 else d.hunt
      accepted := none, restored := none, upcoming := none } := by
  obtain ⟨nonce, epoch, countdown, keyWords⟩ := p
  obtain rfl : keyWords = none := awaited
  rw [Descrambler.keySwitch, if_pos due, pending]

/-- A marker frame whose switch is due is that of the descrambler as the switch leaves it. -/
theorem markerFrame_switches {e : Descrambler} (held : s.context c = some x) (due : x.descrambler.markerDue = true)
    (switched : x.descrambler.keySwitch = e) (still : e.switchDue = false) (marked : e.markerDue = true) :
    markerFrame c s = markerFrame c (placed c x e s) := by
  rw [markerFrame_due held due, switched, markerFrame_due (context_placed ..) marked]
  dsimp only
  rw [keySwitch_none still, judgedFrame_placed]

/-- A marker frame without a switch whose window holds no CLEAR marker. -/
theorem markerFrame_judged (held : s.context c = some x) (due : x.descrambler.markerDue = true)
    (still : x.descrambler.switchDue = false) {found : Option Marker}
    (read : readMarker (x.descrambler.window.map Prod.fst) = found) (open' : ∀ m, found = some m → m.kind ≠ .clear) :
    markerFrame c s =
      onDescrambler c (Descrambler.advanceExpected (tookSwitch x.descrambler.unmarked found))
        (judgeMarker c x x.descrambler.unmarked found
          (placed c x x.descrambler.unmarked s)) := by
  have window : x.descrambler.unmarked.windowMarker = found := read
  rw [markerFrame_due held due, keySwitch_none still]
  unfold judgedFrame
  rw [window]
  exact if_neg (any_eq_false fun m isFound => by simpa using open' m isFound)

/-! ### Agreement -/

theorem named_iff : d.named m = true ↔ ∃ k : CallKey, d.held = some k ∧ m.epoch = k.epoch ∧
    (m.kind = .announce ∨ (m.kind = .data ∧ m.nonce = k.nonce)) := by
  unfold Descrambler.named
  rw [Option.any_eq_true]
  refine exists_congr fun k => and_congr_right fun _ => ?_
  unfold Marker.namesKey Marker.namesCurrent
  cases m.kind <;> simp [and_comm]

theorem agrees_iff {e : Word} (expected : d.expected = some e) :
    d.agrees m = true ↔ d.named m = true ∧ m.counter = e := by
  unfold Descrambler.agrees
  rw [expected, Bool.and_eq_true, beq_iff_eq]
  exact and_congr_right fun _ => ⟨fun same => (Option.some.inj same).symm, fun same => congrArg some same.symm⟩

theorem agreesWith_some (agrees : d.agrees m = true) : d.agreesWith (some m) = some m :=
  Option.filter_eq_some_iff.mpr ⟨rfl, agrees⟩

theorem agreesWith_none {found : Option Marker} (missed : ∀ m, found = some m → ¬d.agrees m = true) :
    d.agreesWith found = none :=
  Option.filter_eq_none_iff.mpr missed

/-- A switch is announced by this marker. -/
def Marker.switches (m : Marker) : Bool := m.kind == .announce && m.countdown == 0

theorem tookSwitch_agreed (agrees : d.agrees m = true) (state : d.state ≠ .keywait) :
    tookSwitch d (some m) = m.switches := by
  rw [tookSwitch, Option.any_some, if_neg state, agrees, Bool.and_true]
  rfl

theorem tookSwitch_expected (expected : d.expected = some m.counter) (state : d.state = .keywait) :
    tookSwitch d (some m) = m.switches := by
  rw [tookSwitch, Option.any_some, if_pos state, expected, beq_self_eq_true, Bool.and_true]
  rfl

theorem tookSwitch_missed {found : Option Marker} (state : d.state ≠ .keywait)
    (missed : ∀ m, found = some m → ¬d.agrees m = true) : tookSwitch d found = false := by
  rw [← Bool.not_eq_true]
  refine any_eq_false fun m isFound took => missed m isFound ?_
  rw [if_neg state, Bool.and_eq_true] at took
  exact took.2

theorem tookSwitch_unexpected {found : Option Marker} (state : d.state = .keywait)
    (missed : ∀ m, found = some m → d.expected = some m.counter → m.kind ≠ .announce) :
    tookSwitch d found = false := by
  rw [← Bool.not_eq_true]
  refine any_eq_false fun m isFound took => ?_
  rw [if_pos state] at took
  simp only [Bool.and_eq_true, beq_iff_eq] at took
  obtain ⟨⟨announce, -⟩, expected⟩ := took
  exact missed m isFound expected announce

/-! ### What a marker makes of a descrambler -/

/-- The descrambler with the fields that a judgement sets beside those of an announcement. -/
def Descrambler.follow (state : DescramblerState) (accepted : Option Accepted) (good miss : Nat) (hunt : Option Nat)
    (d : Descrambler) : Descrambler :=
  { d with state := state, accepted := accepted, good := good, miss := miss, hunt := hunt }

/-- The announcement of a marker that is an ANNOUNCE taken (R145). -/
def announcedIf (m : Marker) (d : Descrambler) : Descrambler := if m.kind = .announce then announcedTo m d else d

/-- What the engine is asked for by a marker that may be an ANNOUNCE (R145). -/
def askedIf (c : ContextId) (x : Context) (m : Marker) (e : Engine) : Engine :=
  if m.kind = .announce then announcedAsks c x m e else e

/-- The descrambler `d` after a marker frame with marker `m` at expected counter `e` (R145, R148). -/
def heardMarker (e : Word) (m : Marker) (d : Descrambler) : Descrambler :=
  if m.kind = .announce then
    if m.countdown = 0 then { announcedTo m d with markerDue := false, expected := some 0, switchDue := true }
    else { announcedTo m d with markerDue := false, expected := some (e + 1) }
  else { d with markerDue := false, expected := some (e + 1) }

theorem announceIf_placed (pending : d.pending = x.descrambler.pending) : announceIf c m (placed c x d s) =
    placed c x (announcedIf m d) (s.withEngine (askedIf c x m s.engine)) := by
  unfold announceIf announcedIf askedIf
  split
  · exact takeAnnouncement_placed m pending
  · rfl

section
variable (state : DescramblerState) (accepted : Option Accepted) (good miss : Nat) (hunt : Option Nat)

theorem announcedTo_follow : announcedTo m (d.follow state accepted good miss hunt) =
    (announcedTo m d).follow state accepted good miss hunt := by
  unfold announcedTo Descrambler.follow
  dsimp only
  cases d.pending with
  | none => rfl
  | some p =>
    dsimp only
    split <;> rfl

theorem announcedIf_follow : announcedIf m (d.follow state accepted good miss hunt) =
    (announcedIf m d).follow state accepted good miss hunt := by
  unfold announcedIf
  split
  · exact announcedTo_follow ..
  · rfl

theorem advanceExpected_follow (b : Bool) : (d.follow state accepted good miss hunt).advanceExpected b =
    (d.advanceExpected b).follow state accepted good miss hunt := by
  unfold Descrambler.advanceExpected
  by_cases unknown : d.offset.isNone = true
  · have unknown' : (d.follow state accepted good miss hunt).offset.isNone = true := unknown
    rw [if_pos unknown, if_pos unknown']
  · have known : ¬(d.follow state accepted good miss hunt).offset.isNone = true := unknown
    rw [if_neg unknown, if_neg known]
    cases b <;> rfl

end

theorem advanceExpected_hunting (b : Bool) : d.enterHunt.advanceExpected b = d.enterHunt := rfl

theorem advanceExpected_false {e : Word} {o : Nat} (offset : d.offset = some o) (expected : d.expected = some e) :
    d.advanceExpected false = { d with expected := some (e + 1) } := by
  unfold Descrambler.advanceExpected
  rw [offset, expected]
  rfl

theorem advanceExpected_true {o : Nat} (offset : d.offset = some o) :
    d.advanceExpected true = { d with expected := some 0, switchDue := true } := by
  unfold Descrambler.advanceExpected
  rw [offset]
  rfl

/-- What an announcement leaves of a descrambler. -/
theorem announcedTo_kept (m : Marker) (d : Descrambler) :
    announcedTo m d = { d with pending := (announcedTo m d).pending, sighted := (announcedTo m d).sighted } := by
  unfold announcedTo
  cases d.pending with
  | none => rfl
  | some p =>
    dsimp only
    split <;> rfl

theorem announcedTo_unmarked :
    announcedTo m d.unmarked = (announcedTo m d).unmarked := by
  unfold announcedTo Descrambler.unmarked
  dsimp only
  cases d.pending with
  | none => rfl
  | some p =>
    dsimp only
    split <;> rfl

theorem advanceExpected_announcedIf {e : Word} {o : Nat} (offset : d.offset = some o) (expected : d.expected = some e) :
    (announcedIf m d.unmarked).advanceExpected m.switches = heardMarker e m d := by
  have offset' : (announcedTo m d).offset = some o := by
    rw [announcedTo_kept]
    exact offset
  have expected' : (announcedTo m d).expected = some e := by
    rw [announcedTo_kept]
    exact expected
  unfold announcedIf heardMarker Marker.switches
  by_cases announce : m.kind = .announce
  · rw [if_pos announce, if_pos announce, announce, announcedTo_unmarked]
    by_cases last : m.countdown = 0
    · rw [if_pos last, last]
      exact advanceExpected_true offset'
    · have later : (m.countdown == 0) = false := beq_eq_false_iff_ne.mpr last
      rw [if_neg last, later]
      exact advanceExpected_false offset' expected'
  · have other : (m.kind == .announce) = false := beq_eq_false_iff_ne.mpr announce
    rw [if_neg announce, if_neg announce, other]
    exact advanceExpected_false offset expected

/-- What a marker that is heard leaves of a descrambler. -/
theorem heardMarker_kept (e : Word) (m : Marker) (d : Descrambler) : heardMarker e m d = { d with
    markerDue := (heardMarker e m d).markerDue, expected := (heardMarker e m d).expected
    switchDue := (heardMarker e m d).switchDue, pending := (heardMarker e m d).pending
    sighted := (heardMarker e m d).sighted } := by
  unfold heardMarker
  rw [announcedTo_kept]
  split
  · split <;> rfl
  · rfl

/-- A heard marker with the fields of a judgement, where `d` gives them. -/
theorem heardMarker_follow {e : Word} {o : Nat} (offset : d.offset = some o) (expected : d.expected = some e)
    (state : DescramblerState) (accepted : Option Accepted) (good miss : Nat) (hunt : Option Nat) :
    (announcedIf m (d.unmarked.follow state accepted good miss hunt)).advanceExpected
      m.switches = (heardMarker e m d).follow state accepted good miss hunt := by
  rw [announcedIf_follow, advanceExpected_follow, advanceExpected_announcedIf offset expected]

end

/-! ### The expected counter after an entry -/

section
variable {c : ContextId} {x : Context} {d : Descrambler} {s : State}

/-- What the test of privacy does beside marking the context. -/
theorem testPrivacy_placed : testPrivacy c (placed c x d s) =
    if x.phase ≠ .closing ∧ x.reached = false ∧ d.state = .sync ∧ x.scrambler.sending = true then
      placed c { x with reached := true } d (requestFunction .privacyOn x.ext (enqueue x.ext (noticeMessage .privacyOn)
        (post .privacyUp (some x.tie) (some c) (some x.index) 0 s)))
    else placed c x d s := by
  split
  next up =>
    obtain ⟨phase, first, sync, sends⟩ := up
    have told : testPrivacy c (placed c x d s) = _ :=
      testPrivacy_establishes (context_placed ..) phase first sync sends
    rw [told]
    unfold placed
    rw [withContext_withContext, post_withContext, enqueue_withContext, requestFunction_withContext]
  next idle =>
    refine testPrivacy_idle (context_placed ..) ?_
    dsimp only
    by_contra up
    push Not at up
    obtain ⟨phase, first, sync, sends⟩ := up
    exact idle ⟨phase, Bool.not_eq_true _ ▸ first, sync, Bool.not_eq_false _ ▸ sends⟩

/-- A change of the descrambler that leaves its state may come before the test of privacy. -/
theorem onDescrambler_testPrivacy {f : Descrambler → Descrambler} (state : (f d).state = d.state) :
    onDescrambler c f (testPrivacy c (placed c x d s)) = testPrivacy c (placed c x (f d) s) := by
  rw [testPrivacy_placed, testPrivacy_placed, state]
  split <;> exact onDescrambler_placed f

theorem advanceExpected_rest (b : Bool) (d : Descrambler) : d.advanceExpected b = { d with
    expected := (d.advanceExpected b).expected, switchDue := (d.advanceExpected b).switchDue } := by
  unfold Descrambler.advanceExpected
  split
  · rfl
  · split <;> rfl

theorem advanceExpected_state (b : Bool) (d : Descrambler) : (d.advanceExpected b).state = d.state := by
  rw [advanceExpected_rest]

theorem advanceExpected_held (b : Bool) (d : Descrambler) : (d.advanceExpected b).held = d.held := by
  rw [advanceExpected_rest]

/-- An entry to SYNC with the expected counter brought up to date. -/
theorem advance_enterSync (b : Bool) (n : Word) :
    onDescrambler c (Descrambler.advanceExpected b) (enterSync c n (placed c x d s)) =
      testPrivacy c (placed c x ((d.advanceExpected b).follow .sync
        (d.held.map fun k => { key := k, counter := n }) d.good 0 none) s) := by
  rw [enterSync_placed, onDescrambler_testPrivacy (advanceExpected_state b _), ← advanceExpected_follow]
  rfl

/-- An entry to PRESYNC with the expected counter brought up to date. -/
theorem advance_enterPresync (b : Bool) (n : Word) :
    onDescrambler c (Descrambler.advanceExpected b) (enterPresync c n (placed c x d s)) =
      enterPresync c n (placed c x (d.advanceExpected b) s) := by
  have synced : Descrambler.advanceExpected b { d.accept n with state := .sync, good := 1, miss := 0, hunt := none } =
      { (d.advanceExpected b).accept n with state := .sync, good := 1, miss := 0, hunt := none } := by
    have follows := advanceExpected_follow (d := d) .sync (d.held.map fun k => { key := k, counter := n }) 1 0 none b
    refine follows.trans ?_
    rw [← advanceExpected_held b d]
    rfl
  have waiting : Descrambler.advanceExpected b { d with state := .presync, good := 1 } =
      { d.advanceExpected b with state := .presync, good := 1 } := by
    have follows := advanceExpected_follow (d := d) .presync d.accepted 1 d.miss d.hunt b
    refine follows.trans ?_
    rw [advanceExpected_rest]
    rfl
  rw [enterPresync_placed, enterPresync_placed]
  split
  · rw [onDescrambler_testPrivacy (advanceExpected_state b _), synced]
  · rw [onDescrambler_placed, waiting]

/-! ### Loss of sync -/

theorem onDescrambler_unchanged {f : Descrambler → Descrambler} (held : s.context c = some x)
    (same : f x.descrambler = x.descrambler) : onDescrambler c f s = s := by
  rw [onDescrambler_held held, same]
  exact held ▸ withContext_context s c

/-- Context `c`, which is `x` with descrambler `d`, once it has lost sync, before it is told (R151). -/
def lostSync (c : ContextId) (x : Context) (d : Descrambler) (s : State) : State :=
  post .privacyLost (some x.tie) (some c) (some x.index) 0 (s.withContext c (some { x with
    syncLosses := min (x.syncLosses + 1) 255, descrambler := d.enterHunt }))

theorem loseSync_placed : loseSync c (placed c x d s) =
    if x.reached then requestFunction .privacyLost x.ext (enqueue x.ext (noticeMessage .privacyLost) (lostSync c x d s))
    else lostSync c x d s := by
  unfold loseSync lostSync
  rw [context_placed]
  dsimp only
  rw [onContext_held (context_placed ..)]
  unfold placed
  rw [withContext_withContext]
  rfl

theorem context_lostSync : (lostSync c x d s).context c = some { x with
    syncLosses := min (x.syncLosses + 1) 255, descrambler := d.enterHunt } := by
  unfold lostSync
  rw [context_post, context_withContext_self]

theorem advance_loseSync (b : Bool) : onDescrambler c (Descrambler.advanceExpected b) (loseSync c (placed c x d s)) =
    loseSync c (placed c x d s) := by
  rw [loseSync_placed]
  split
  · refine onDescrambler_unchanged (x := { x with
      syncLosses := min (x.syncLosses + 1) 255, descrambler := d.enterHunt }) ?_ (advanceExpected_hunting b)
    rw [context_requestFunction, context_enqueue, context_lostSync]
  · exact onDescrambler_unchanged context_lostSync (advanceExpected_hunting b)

theorem loseSync_told : (x.reached = false → loseSync c (placed c x d s) = lostSync c x d s) ∧
    (x.reached = true → Noticed x.ext 0x03 s.tones.functions.privacyLost (lostSync c x d s)
      (loseSync c (placed c x d s))) := by
  rw [loseSync_placed]
  refine ⟨fun unreached => if_neg (by rw [unreached]; exact Bool.false_ne_true), fun reached => ?_⟩
  rw [if_pos reached]
  have noticed := noticed_of_notice .privacyLost .privacyLost x.ext (lostSync c x d s)
  have tones : (lostSync c x d s).tones = s.tones := post_tones ..
  rw [tones] at noticed
  exact noticed

theorem enterHunt_eq (d : Descrambler) : d.enterHunt = { Descrambler.halted with
    held := d.held, pending := d.pending
    hunt := if d.state = .sync ∨ d.state = .flywheel then some 0 else d.hunt } := rfl

end

end Sys2Proof.Machine
end

section
/-! PROOFS. What a marker frame makes of a context, by the state of its descrambler and the marker judged. -/

namespace Sys2Proof.Machine

open Sys2Proof.Safety

/-! ### The judgement in each state -/

section
variable {c : ContextId} {x : Context} {d : Descrambler} {m : Marker} {found : Option Marker} {s : State}

theorem judgeSync_agreed (pending : d.pending = x.descrambler.pending) (agrees : d.agrees m = true) :
    judgeSync c x d (some m) (placed c x d s) =
      placed c x (announcedIf m (d.accept m.counter)) (s.withEngine (askedIf c x m s.engine)) := by
  unfold judgeSync
  rw [agreesWith_some agrees]
  dsimp only
  rw [onDescrambler_placed]
  exact announceIf_placed pending

theorem judgeFlywheel_agreed (pending : d.pending = x.descrambler.pending) (agrees : d.agrees m = true) :
    judgeFlywheel c x d (some m) (placed c x d s) =
      enterSync c m.counter (placed c x (announcedIf m d) (s.withEngine (askedIf c x m s.engine))) := by
  unfold judgeFlywheel
  rw [agreesWith_some agrees]
  dsimp only
  rw [announceIf_placed pending]

theorem judgePresync_agreed (pending : d.pending = x.descrambler.pending) (agrees : d.agrees m = true) :
    judgePresync c x d (some m) (placed c x d s) =
      if x.profile.presync ≤ d.good + 1 then enterSync c m.counter
        (placed c x (announcedIf m { d with good := d.good + 1 }) (s.withEngine (askedIf c x m s.engine)))
      else placed c x (announcedIf m { d with good := d.good + 1 }) (s.withEngine (askedIf c x m s.engine)) := by
  unfold judgePresync
  rw [agreesWith_some agrees]
  dsimp only
  rw [onDescrambler_placed, announceIf_placed (d := { d with good := d.good + 1 }) pending]

theorem missFollowing_placed (n : Nat) (count : (if d.state = .sync then 1 else d.miss + 1) = n) :
    missFollowing c x d (placed c x d s) =
      if x.profile.flywheel ≤ n then loseSync c (placed c x d s)
      else placed c x { d.accept (d.expected.getD 0) with state := .flywheel, miss := n } s := by
  unfold missFollowing
  dsimp only
  rw [count, onDescrambler_placed]

theorem judgeSync_missed (missed : ∀ m, found = some m → ¬d.agrees m = true) :
    judgeSync c x d found s = missFollowing c x d s := by
  rw [judgeSync, agreesWith_none missed]

theorem judgeFlywheel_missed (missed : ∀ m, found = some m → ¬d.agrees m = true) :
    judgeFlywheel c x d found s = missFollowing c x d s := by
  rw [judgeFlywheel, agreesWith_none missed]

theorem judgePresync_missed (missed : ∀ m, found = some m → ¬d.agrees m = true) :
    judgePresync c x d found s = onDescrambler c Descrambler.enterHunt s := by
  rw [judgePresync, agreesWith_none missed]

/-- The key that an announcement leaves pending has a countdown (R145). -/
theorem announcedTo_announced (m : Marker) (d : Descrambler) (p : PendingKey)
    (pending : (announcedTo m d).pending = some p) : p.countdown.isSome := by
  unfold announcedTo at pending
  dsimp only at pending
  cases held : d.pending with
  | none =>
    rw [held] at pending
    rw [← Option.some.inj pending]
    rfl
  | some q =>
    rw [held] at pending
    dsimp only at pending
    split at pending
    · rw [← Option.some.inj pending]
      rfl
    · rw [← Option.some.inj pending]
      rfl

/-! In KEYWAIT. -/

theorem judgeKeywait_named (expected : d.expected = some m.counter) (open' : m.kind ≠ .clear)
    (named : d.named m = true) : judgeKeywait c d (some m) s =
      enterPresync c m.counter (dropSought c (announceIf c m s)) := by
  unfold judgeKeywait
  dsimp only
  rw [if_neg (by rw [expected]; simp [open']), if_pos named]

theorem judgeKeywait_announced (expected : d.expected = some m.counter) (announce : m.kind = .announce)
    (unnamed : ¬d.named m = true) : judgeKeywait c d (some m) s =
      onDescrambler c (fun d => { d with miss := 0 }) (takeAnnouncement c m s) := by
  unfold judgeKeywait
  dsimp only
  rw [if_neg (by rw [expected, announce]; simp), if_neg unnamed, if_pos announce]

theorem judgeKeywait_pending {p : PendingKey} (expected : d.expected = some m.counter) (data : m.kind = .data)
    (unnamed : ¬d.named m = true) (pending : d.pending = some p) (sought : m.namesPending p = true) :
    judgeKeywait c d (some m) s =
      if p.words.isSome then enterPresync c m.counter (onDescrambler c Descrambler.namePending s)
      else onDescrambler c (fun d => { d with sighted := true, miss := 0 })
        (onDescrambler c Descrambler.namePending s) := by
  unfold judgeKeywait
  dsimp only
  rw [if_neg (by rw [expected, data]; simp), if_neg unnamed, if_neg (by rw [data]; decide),
    if_pos (any_of_some pending sought), pending, Option.any_some]

theorem judgeKeywait_missed
    (missed : ∀ m, found = some m → m.kind ≠ .clear ∧ (d.expected = some m.counter → m.kind = .data ∧
      ¬d.named m = true ∧ ∀ p, d.pending = some p → ¬m.namesPending p = true)) :
    judgeKeywait c d found s = onDescrambler c Descrambler.missKeywait s := by
  unfold judgeKeywait
  cases found with
  | none => rfl
  | some m =>
    obtain ⟨open', unknown⟩ := missed m rfl
    dsimp only
    by_cases expected : d.expected = some m.counter
    · obtain ⟨data, unnamed, unsought⟩ := unknown expected
      rw [if_neg (by rw [expected, data]; simp), if_neg unnamed, if_neg (by rw [data]; decide),
        if_neg (any_eq_false unsought)]
    · rw [if_pos (.inr expected)]

end

/-! ### The marker frame in each state -/

section
variable {c : ContextId} {x : Context} {m : Marker} {found : Option Marker} {e : Word} {o : Nat} {s : State}
variable (held : s.context c = some x) (due : x.descrambler.markerDue = true)
  (still : x.descrambler.switchDue = false) (expected : x.descrambler.expected = some e)
  (offset : x.descrambler.offset = some o)

/-- The acceptance of the block now arriving, under the held key with counter `e` (R152). -/
def acceptedAt (d : Descrambler) (e : Word) : Option Accepted := d.held.map fun k => { key := k, counter := e }

section
variable (read : readMarker (x.descrambler.window.map Prod.fst) = some m) (counted : m.counter = e)
  (named : x.descrambler.named m = true)

include named in
theorem named_open : m.kind ≠ .clear := by
  obtain ⟨k, -, -, announce | ⟨data, -⟩⟩ := named_iff.mp named
  · rw [announce]
    decide
  · rw [data]
    decide

include named in
theorem open_of_named (m' : Marker) (same : some m = some m') : m'.kind ≠ .clear :=
  Option.some.inj same ▸ named_open named

include expected counted named in
theorem unmarked_agrees : x.descrambler.unmarked.agrees m = true :=
  (agrees_iff (d := x.descrambler.unmarked) expected).mpr ⟨named, counted⟩

include held due still expected offset read counted named

theorem markerFrame_sync (state : x.descrambler.state = .sync) : markerFrame c s =
    placed c x ((heardMarker e m x.descrambler).follow .sync (acceptedAt x.descrambler e) x.descrambler.good
      x.descrambler.miss x.descrambler.hunt) (s.withEngine (askedIf c x m s.engine)) := by
  have state' : x.descrambler.unmarked.state = .sync := state
  have agrees := unmarked_agrees expected counted named
  have accepts : x.descrambler.unmarked.accept m.counter = x.descrambler.unmarked.follow .sync
      (acceptedAt x.descrambler e) x.descrambler.good x.descrambler.miss x.descrambler.hunt := by
    unfold Descrambler.accept Descrambler.follow acceptedAt
    rw [state', counted]
    rfl
  rw [markerFrame_judged held due still read (open_of_named named)]
  unfold judgeMarker
  rw [state']
  dsimp only
  rw [judgeSync_agreed (d := x.descrambler.unmarked) rfl agrees, tookSwitch_agreed agrees (by rw [state']; decide),
    onDescrambler_placed, accepts, heardMarker_follow offset expected]

theorem markerFrame_flywheel (state : x.descrambler.state = .flywheel) : markerFrame c s =
    testPrivacy c (placed c x ((heardMarker e m x.descrambler).follow .sync (acceptedAt x.descrambler e)
      x.descrambler.good 0 none) (s.withEngine (askedIf c x m s.engine))) := by
  have state' : x.descrambler.unmarked.state = .flywheel := state
  have agrees := unmarked_agrees expected counted named
  have heard := advanceExpected_announcedIf (m := m) offset expected
  have kept : (announcedIf m x.descrambler.unmarked).held = x.descrambler.held ∧
      (announcedIf m x.descrambler.unmarked).good = x.descrambler.good := by
    unfold announcedIf
    split
    · rw [announcedTo_kept]
      exact ⟨rfl, rfl⟩
    · exact ⟨rfl, rfl⟩
  obtain ⟨sameHeld, sameGood⟩ := kept
  rw [markerFrame_judged held due still read (open_of_named named)]
  unfold judgeMarker
  rw [state']
  dsimp only
  rw [judgeFlywheel_agreed (d := x.descrambler.unmarked) rfl agrees,
    tookSwitch_agreed agrees (by rw [state']; decide), advance_enterSync, heard,
    sameHeld, sameGood, counted]
  rfl

theorem markerFrame_presync (state : x.descrambler.state = .presync) : markerFrame c s =
    if x.profile.presync ≤ x.descrambler.good + 1 then
      testPrivacy c (placed c x ((heardMarker e m x.descrambler).follow .sync (acceptedAt x.descrambler e)
        (x.descrambler.good + 1) 0 none) (s.withEngine (askedIf c x m s.engine)))
    else placed c x ((heardMarker e m x.descrambler).follow .presync x.descrambler.accepted (x.descrambler.good + 1)
      x.descrambler.miss x.descrambler.hunt) (s.withEngine (askedIf c x m s.engine)) := by
  have state' : x.descrambler.unmarked.state = .presync := state
  have agrees := unmarked_agrees expected counted named
  let counts : Descrambler := x.descrambler.unmarked.follow .presync x.descrambler.accepted (x.descrambler.good + 1)
    x.descrambler.miss x.descrambler.hunt
  have counting : ({ (x.descrambler.unmarked : Descrambler) with
      good := Descrambler.good x.descrambler.unmarked + 1 } : Descrambler) = counts := by
    unfold counts Descrambler.follow
    rw [← state']
    rfl
  have heard : (announcedIf m counts).advanceExpected m.switches = _ :=
    heardMarker_follow (m := m) offset expected ..
  have kept : (announcedIf m counts).held = x.descrambler.held ∧
      (announcedIf m counts).good = x.descrambler.good + 1 := by
    unfold announcedIf
    split
    · rw [announcedTo_kept]
      exact ⟨rfl, rfl⟩
    · exact ⟨rfl, rfl⟩
  obtain ⟨sameHeld, sameGood⟩ := kept
  rw [markerFrame_judged held due still read (open_of_named named)]
  unfold judgeMarker
  rw [state']
  dsimp only
  rw [judgePresync_agreed (d := x.descrambler.unmarked) rfl agrees, counting,
    tookSwitch_agreed agrees (by rw [state']; decide)]
  rw [show x.descrambler.unmarked.good = x.descrambler.good from rfl]
  split
  · rw [advance_enterSync, heard, sameHeld, sameGood, counted]
    rfl
  · rw [onDescrambler_placed, heard]

/-- KEYWAIT under the held key, with no sought key to drop (R146). -/
theorem markerFrame_keywait_named (state : x.descrambler.state = .keywait)
    (announced : m.kind = .announce ∨ ∀ p, x.descrambler.pending = some p → p.countdown.isSome) : markerFrame c s =
      enterPresync c e (placed c x (heardMarker e m x.descrambler) (s.withEngine (askedIf c x m s.engine))) := by
  have state' : x.descrambler.unmarked.state = .keywait := state
  have kept : ∀ p, (announcedIf m x.descrambler.unmarked).pending = some p → p.countdown.isSome := by
    intro p
    unfold announcedIf
    split
    next => exact announcedTo_announced m _ p
    next other => exact fun pending => announced.elim (absurd · other) (· p pending)
  rw [markerFrame_judged held due still read (open_of_named named)]
  unfold judgeMarker
  rw [state']
  dsimp only
  rw [judgeKeywait_named (d := x.descrambler.unmarked) (expected.trans (congrArg some counted.symm)) (named_open named) named,
    announceIf_placed (x := x) (d := x.descrambler.unmarked) rfl, dropSought_placed_announced kept, advance_enterPresync,
    tookSwitch_expected (d := x.descrambler.unmarked) (expected.trans (congrArg some counted.symm)) state,
    advanceExpected_announcedIf offset expected, counted]

/-- KEYWAIT under the held key, where a sought key is dropped (R146). -/
theorem markerFrame_keywait_dropped {p : PendingKey} (state : x.descrambler.state = .keywait) (data : m.kind = .data)
    (pending : x.descrambler.pending = some p) (sought : p.countdown = none) : markerFrame c s =
      enterPresync c e (placed c x
        { x.descrambler with markerDue := false, expected := some (e + 1), pending := none }
        (s.withEngine (s.engine.withdraw (Job.isRxOf c)))) := by
  have state' : x.descrambler.unmarked.state = .keywait := state
  have silent : announceIf c m (placed c x x.descrambler.unmarked s) =
      placed c x x.descrambler.unmarked s := if_neg (by rw [data]; decide)
  have steady : m.switches = false := by rw [Marker.switches, data]; rfl
  rw [markerFrame_judged held due still read (open_of_named named)]
  unfold judgeMarker
  rw [state']
  dsimp only
  rw [judgeKeywait_named (d := x.descrambler.unmarked) (expected.trans (congrArg some counted.symm)) (named_open named) named, silent,
    dropSought_placed_sought (d := x.descrambler.unmarked) pending sought, advance_enterPresync,
    tookSwitch_expected (d := x.descrambler.unmarked) (expected.trans (congrArg some counted.symm)) state, steady, counted]
  exact congrArg (fun d => enterPresync c e (placed c x d _)) (advanceExpected_false offset expected)

end

section
variable (read : readMarker (x.descrambler.window.map Prod.fst) = found)
  (missed : ∀ m, found = some m → m.kind ≠ .clear ∧ ¬(m.counter = e ∧ x.descrambler.named m = true))

include expected missed in
theorem unmarked_disagrees (m : Marker) (isFound : found = some m) :
    ¬x.descrambler.unmarked.agrees m = true := by
  rw [agrees_iff (d := x.descrambler.unmarked) expected]
  exact fun ⟨named, counted⟩ => (missed m isFound).2 ⟨counted, named⟩

include held due still expected read missed

include offset in
/-- A miss in SYNC or FLYWHEEL (R150, R151). -/
theorem markerFrame_missed {n : Nat} (state : x.descrambler.state = .sync ∧ n = 1 ∨
    x.descrambler.state = .flywheel ∧ n = x.descrambler.miss + 1) : markerFrame c s =
      if x.profile.flywheel ≤ n then loseSync c (placed c x x.descrambler.unmarked s)
      else placed c x (Descrambler.follow .flywheel (acceptedAt x.descrambler e) x.descrambler.good n
        x.descrambler.hunt { x.descrambler with markerDue := false, expected := some (e + 1) }) s := by
  have disagrees := unmarked_disagrees expected missed
  have count : (if x.descrambler.state = .sync then 1 else x.descrambler.miss + 1) = n := by
    obtain ⟨sync, rfl⟩ | ⟨flywheel, rfl⟩ := state
    · exact if_pos sync
    · exact if_neg (by rw [flywheel]; decide)
  have judged : judgeMarker c x x.descrambler.unmarked found
      (placed c x x.descrambler.unmarked s) =
        missFollowing c x x.descrambler.unmarked
          (placed c x x.descrambler.unmarked s) := by
    unfold judgeMarker
    obtain ⟨sync, -⟩ | ⟨flywheel, -⟩ := state
    · rw [show x.descrambler.unmarked.state = _ from sync]
      exact judgeSync_missed disagrees
    · rw [show x.descrambler.unmarked.state = _ from flywheel]
      exact judgeFlywheel_missed disagrees
  have following : x.descrambler.unmarked.state ≠ .keywait := by
    obtain ⟨sync, -⟩ | ⟨flywheel, -⟩ := state
    · rw [show x.descrambler.unmarked.state = _ from sync]
      decide
    · rw [show x.descrambler.unmarked.state = _ from flywheel]
      decide
  rw [markerFrame_judged held due still read fun m isFound => (missed m isFound).1, judged,
    missFollowing_placed (d := x.descrambler.unmarked) n count, tookSwitch_missed following disagrees]
  split
  · exact advance_loseSync false
  · have counted : x.descrambler.unmarked.expected.getD 0 = e := by
      rw [show x.descrambler.unmarked.expected = some e from expected]
      rfl
    rw [onDescrambler_placed, counted]
    exact congrArg (fun d => placed c x d s) (advanceExpected_false
      (d := x.descrambler.unmarked.follow .flywheel (acceptedAt x.descrambler e) x.descrambler.good n
        x.descrambler.hunt) offset expected)

theorem markerFrame_presync_missed (state : x.descrambler.state = .presync) : markerFrame c s =
    placed c x x.descrambler.unmarked.enterHunt s := by
  have state' : x.descrambler.unmarked.state = .presync := state
  have disagrees := unmarked_disagrees expected missed
  rw [markerFrame_judged held due still read fun m isFound => (missed m isFound).1]
  unfold judgeMarker
  rw [state']
  dsimp only
  rw [judgePresync_missed disagrees, onDescrambler_placed, onDescrambler_placed]
  rfl

end

section
variable (read : readMarker (x.descrambler.window.map Prod.fst) = some m) (counted : m.counter = e)
  (state : x.descrambler.state = .keywait) (unnamed : ¬x.descrambler.named m = true)
include held due still expected offset read counted state unnamed

/-- KEYWAIT takes an announcement that does not name its key (R146). -/
theorem markerFrame_keywait_announced (announce : m.kind = .announce) : markerFrame c s =
    placed c x ((heardMarker e m x.descrambler).follow .keywait x.descrambler.accepted x.descrambler.good 0
      x.descrambler.hunt) (s.withEngine (announcedAsks c x m s.engine)) := by
  have state' : x.descrambler.unmarked.state = .keywait := state
  have kept (d : Descrambler) (keywait : d.state = .keywait) :
      ({ announcedTo m d with miss := 0 } : Descrambler) =
        announcedIf m (d.follow .keywait d.accepted d.good 0 d.hunt) := by
    rw [announcedIf_follow, announcedIf, if_pos announce]
    unfold Descrambler.follow
    rw [announcedTo_kept, ← keywait]
  rw [markerFrame_judged held due still read fun m' same => by rw [← Option.some.inj same, announce]; decide]
  unfold judgeMarker
  rw [state']
  dsimp only
  rw [judgeKeywait_announced (d := x.descrambler.unmarked) (expected.trans (congrArg some counted.symm)) announce unnamed,
    takeAnnouncement_placed (x := x) (d := x.descrambler.unmarked) m rfl, onDescrambler_placed, onDescrambler_placed,
    tookSwitch_expected (d := x.descrambler.unmarked) (expected.trans (congrArg some counted.symm)) state, kept x.descrambler.unmarked state']
  exact congrArg (fun d => placed c x d _) (heardMarker_follow offset expected ..)

/-- KEYWAIT with a marker that names the pending key (R146). -/
theorem markerFrame_keywait_pending {p : PendingKey} (data : m.kind = .data) (pending : x.descrambler.pending = some p)
    (sought : m.namesPending p = true) : markerFrame c s =
      if p.words.isSome then enterPresync c e (placed c x (Descrambler.namePending
        { x.descrambler with markerDue := false, expected := some (e + 1) }) s)
      else placed c x { Descrambler.namePending
        { x.descrambler with markerDue := false, expected := some (e + 1) } with sighted := true, miss := 0 } s := by
  have state' : x.descrambler.unmarked.state = .keywait := state
  have steady : m.switches = false := by rw [Marker.switches, data]; rfl
  rw [markerFrame_judged held due still read fun m' same => by rw [← Option.some.inj same, data]; decide]
  unfold judgeMarker
  rw [state']
  dsimp only
  rw [judgeKeywait_pending (d := x.descrambler.unmarked) (expected.trans (congrArg some counted.symm)) data unnamed pending sought,
    onDescrambler_placed, onDescrambler_placed, tookSwitch_expected (d := x.descrambler.unmarked) (expected.trans (congrArg some counted.symm)) state,
    steady]
  cases words : p.words with
  | some w =>
    rw [if_pos Option.isSome_some, if_pos Option.isSome_some, advance_enterPresync, counted,
      namePending_delivered (d := x.descrambler.unmarked) pending words,
      namePending_delivered (d := { x.descrambler with markerDue := false, expected := some (e + 1) }) pending words]
    exact congrArg (fun d => enterPresync c e (placed c x d s)) (advanceExpected_false offset expected)
  | none =>
    rw [if_neg (by simp), if_neg (by simp), onDescrambler_placed,
      namePending_awaited (d := x.descrambler.unmarked) pending words,
      namePending_awaited (d := { x.descrambler with markerDue := false, expected := some (e + 1) }) pending words]
    exact congrArg (fun d => placed c x d s) (advanceExpected_false offset expected)

end

include held due still expected offset in
/-- A miss in KEYWAIT (R146). -/
theorem markerFrame_keywait_missed (read : readMarker (x.descrambler.window.map Prod.fst) = found)
    (state : x.descrambler.state = .keywait)
    (missed : ∀ m, found = some m → m.kind ≠ .clear ∧ (m.counter = e → m.kind = .data ∧
      ¬x.descrambler.named m = true ∧ ∀ p, x.descrambler.pending = some p → ¬m.namesPending p = true)) :
    markerFrame c s =
      if 2 ≤ x.descrambler.miss + 1 then
        placed c x x.descrambler.unmarked.enterHunt s
      else placed c x { x.descrambler with
        markerDue := false, expected := some (e + 1), miss := x.descrambler.miss + 1 } s := by
  have state' : x.descrambler.unmarked.state = .keywait := state
  have unknown (m : Marker) (isFound : found = some m) : m.kind ≠ .clear ∧
      (x.descrambler.expected = some m.counter → m.kind = .data ∧ ¬x.descrambler.named m = true ∧
        ∀ p, x.descrambler.pending = some p → ¬m.namesPending p = true) := by
    refine ⟨(missed m isFound).1, fun same => (missed m isFound).2 ?_⟩
    exact (Option.some.inj (expected.symm.trans same)).symm
  have unswitched : tookSwitch x.descrambler.unmarked found = false := by
    refine tookSwitch_unexpected state fun m isFound same => ?_
    rw [((unknown m isFound).2 same).1]
    decide
  rw [markerFrame_judged held due still read fun m isFound => (missed m isFound).1, unswitched]
  unfold judgeMarker
  rw [state']
  dsimp only
  rw [judgeKeywait_missed (d := x.descrambler.unmarked) unknown, onDescrambler_placed,
    onDescrambler_placed]
  unfold Descrambler.missKeywait
  split
  next second => exact (if_pos second).symm
  next first =>
    refine Eq.trans ?_ (if_neg first).symm
    exact congrArg (fun d => placed c x d s) (advanceExpected_false offset expected)

end

end Sys2Proof.Machine
end

section
/-! PROOFS. The law of the marker frame and of the block restored, from the frame's equations. -/

namespace Sys2Proof.Machine

open Sys2Proof.Safety

theorem exec_blockRestore : ∀ (c : ContextId) (s : State),
    exec (.blockRestore c) s = whileRunning (blockRestore c) s := by
  intros; rfl

section
variable {c : ContextId} {x : Context} {d : Descrambler} {e : Word} {m : Marker} {s : State}

theorem blockRestore_due {a : Accepted} (held : s.context c = some x) (due : x.descrambler.restoreDue = true)
    (accepted : x.descrambler.accepted = some a) : blockRestore c s = placed c x { x.descrambler with
      restoreDue := false, accepted := none
      upcoming := some (restore x.profile.segment x.profile.masking a.key.words a.counter x.descrambler.buffer) } s := by
  unfold blockRestore
  rw [onContext_held held, if_pos due, Descrambler.restoreBlock, accepted]
  rfl

theorem heardMarker_fields (e : Word) (m : Marker) (d : Descrambler) : (heardMarker e m d).state = d.state ∧
    (heardMarker e m d).held = d.held ∧ (heardMarker e m d).accepted = d.accepted ∧
      (heardMarker e m d).good = d.good ∧ (heardMarker e m d).miss = d.miss ∧
        (heardMarker e m d).hunt = d.hunt := by
  rw [heardMarker_kept]
  exact ⟨rfl, rfl, rfl, rfl, rfl, rfl⟩

theorem heardMarker_data (data : m.kind = .data) : heardMarker e m d =
    { d with markerDue := false, expected := some (e + 1) } :=
  if_neg (by rw [data]; decide)

theorem askedIf_data (data : m.kind = .data) (g : Engine) : askedIf c x m g = g := if_neg (by rw [data]; decide)

theorem askedIf_announce (announce : m.kind = .announce) (g : Engine) : askedIf c x m g = announcedAsks c x m g :=
  if_pos announce

end

/-- Settles O43: the equation of the marker frame in each state, from `markerFrame_sync` to `markerFrame_keywait_missed`,
and the key switch before it. -/
theorem syncFollowsTheMarkers : Obligations.SyncFollowsTheMarkers := by
  intro c x s running held d found
  have act (t : State) (leads : markerFrame c s = t) : exec (.markerFrame c) s = .next t := by
    rw [exec_markerFrame, whileRunning_running running, leads]
  refine ⟨fun a due accepted => ?_, fun due switching p pending => ?_, fun e o due still expected offset => ?_⟩
  · rw [exec_blockRestore, whileRunning_running running, blockRestore_due held due accepted]
    rfl
  · intro switched
    have moved (e : Descrambler) (by' : d.keySwitch = e) (still : e.switchDue = false) (marked : e.markerDue = true) :
        switched e := by
      refine (act _ (markerFrame_switches held due by' still marked)).trans ?_
      rw [exec_markerFrame, whileRunning_running (s := s.withContext c (some { x with descrambler := e })) running]
      rfl
    exact ⟨fun w words => moved _ (keySwitch_delivered switching pending words) rfl due,
      fun awaited => moved _ (keySwitch_awaited switching pending awaited) rfl due⟩
  intro risen heard asked hunting accept put goes syncs joins loses named agreed missed
  have isNamed (m : Marker) : named m ↔ d.named m = true := named_iff.symm
  have isHeard (m : Marker) : heardMarker e m d = heard m := rfl
  have isAsked (m : Marker) : askedIf c x m s.engine = asked m := rfl
  have missedMarker (miss : missed) (m : Marker) (isFound : found = some m) :
      m.kind ≠ .clear ∧ ¬(m.counter = e ∧ d.named m = true) := by
    rw [← isNamed m]
    exact miss m isFound
  have synced {g : Engine} {y : Descrambler} (leads : markerFrame c s = testPrivacy c (put g y)) : syncs g y :=
    ⟨_, act _ leads, testPrivacy_tests (context_withContext_self ..)⟩
  have joined {g : Engine} {y : Descrambler} (leads : markerFrame c s =
      enterPresync c e (placed c x y (s.withEngine g))) : joins g y := ⟨_, act _ leads, enterPresync_joins _⟩
  have lost (leads : markerFrame c s = loseSync c (placed c x d.unmarked s))
      (following : d.state = .sync ∨ d.state = .flywheel) : loses := by
    have hunts : d.unmarked.enterHunt = hunting (some 0) := by
      rw [enterHunt_eq, if_pos (show d.unmarked.state = .sync ∨ d.unmarked.state = .flywheel from
        following)]
      rfl
    have told := loseSync_told (c := c) (x := x) (d := d.unmarked) (s := s)
    unfold lostSync at told
    rw [hunts] at told
    exact ⟨_, act _ leads, told⟩
  have hunted (waiting : d.state ≠ .sync ∧ d.state ≠ .flywheel) : d.unmarked.enterHunt = hunting d.hunt := by
    rw [enterHunt_eq, if_neg (show ¬(d.unmarked.state = .sync ∨ d.unmarked.state = .flywheel) from
      fun following => following.elim waiting.1 waiting.2)]
    rfl
  refine ⟨fun state => ⟨fun m ⟨isFound, counted, naming⟩ => ?_, fun miss many => ?_, fun miss one => ?_⟩,
    fun state => ⟨fun m ⟨isFound, counted, naming⟩ => synced ?_, fun miss many => ?_, fun miss few => ?_⟩,
    fun state => ⟨fun m ⟨isFound, counted, naming⟩ few => ?_, fun m ⟨isFound, counted, naming⟩ many => synced ?_,
      fun miss => ?_⟩,
    fun state => ⟨fun m ⟨isFound, counted, naming⟩ announced => joined ?_,
      fun m p ⟨isFound, counted, naming⟩ data pending sought => joined ?_,
      fun m isFound announce counted unnamed => ?_,
      fun m p isFound data counted unnamed pending nonce epoch => ?_, fun miss => ⟨fun first => ?_, fun second => ?_⟩⟩⟩
  · refine act _ ((markerFrame_sync held due still expected offset isFound counted ((isNamed m).mp naming) state).trans
      ?_)
    obtain ⟨sameState, sameHeld, -, sameGood, sameMiss, sameHunt⟩ := heardMarker_fields e m d
    have accepts : (heardMarker e m d).follow .sync (acceptedAt d e) d.good d.miss d.hunt = accept (heardMarker e m d) := by
      unfold Descrambler.follow acceptedAt accept
      rw [sameHeld, ← sameGood, ← sameMiss, ← sameHunt, ← (sameState.trans state)]
    rw [accepts]
    rfl
  · refine act _ ((markerFrame_missed held due still expected offset rfl (missedMarker miss)
      (.inl ⟨state, rfl⟩)).trans ?_)
    exact if_neg (by omega)
  · exact lost ((markerFrame_missed held due still expected offset rfl (missedMarker miss)
      (.inl ⟨state, rfl⟩)).trans (if_pos one)) (.inl state)
  · refine (markerFrame_flywheel held due still expected offset isFound counted ((isNamed m).mp naming) state).trans ?_
    obtain ⟨-, sameHeld, -, sameGood, -⟩ := heardMarker_fields e m d
    have accepts : (heardMarker e m d).follow .sync (acceptedAt d e) d.good 0 none =
        { accept (heardMarker e m d) with state := .sync, miss := 0, hunt := none } := by
      unfold Descrambler.follow acceptedAt accept
      rw [sameHeld, ← sameGood]
    rw [accepts]
    rfl
  · refine act _ ((markerFrame_missed held due still expected offset rfl (missedMarker miss)
      (.inr ⟨state, rfl⟩)).trans ?_)
    refine (if_neg (Nat.not_le.mpr many)).trans ?_
    unfold Descrambler.follow acceptedAt
    rw [← state]
    rfl
  · exact lost ((markerFrame_missed held due still expected offset rfl (missedMarker miss)
      (.inr ⟨state, rfl⟩)).trans (if_pos few)) (.inr state)
  · refine act _ ((markerFrame_presync held due still expected offset isFound counted ((isNamed m).mp naming)
      state).trans ((if_neg (Nat.not_le.mpr few)).trans ?_))
    obtain ⟨sameState, -, sameAccepted, -, sameMiss, sameHunt⟩ := heardMarker_fields e m d
    have counts : (heardMarker e m d).follow .presync d.accepted (d.good + 1) d.miss d.hunt =
        { heardMarker e m d with good := d.good + 1 } := by
      unfold Descrambler.follow
      rw [← sameAccepted, ← sameMiss, ← sameHunt, ← (sameState.trans state)]
    rw [counts]
    rfl
  · refine (markerFrame_presync held due still expected offset isFound counted ((isNamed m).mp naming)
      state).trans ((if_pos many).trans ?_)
    obtain ⟨-, sameHeld, -⟩ := heardMarker_fields e m d
    have accepts : (heardMarker e m d).follow .sync (acceptedAt d e) (d.good + 1) 0 none =
        { accept (heardMarker e m d) with state := .sync, good := d.good + 1, miss := 0, hunt := none } := by
      unfold Descrambler.follow acceptedAt accept
      rw [sameHeld]
    rw [accepts]
    rfl
  · refine act _ ((markerFrame_presync_missed held due still expected rfl (missedMarker miss) state).trans ?_)
    rw [hunted (by rw [state]; decide)]
    rfl
  · exact markerFrame_keywait_named held due still expected offset isFound counted ((isNamed m).mp naming) state announced
  · exact markerFrame_keywait_dropped held due still expected offset isFound counted ((isNamed m).mp naming) state data
      pending sought
  · refine act _ ((markerFrame_keywait_announced held due still expected offset isFound counted state
      ((isNamed m).not.mp unnamed) announce).trans ?_)
    obtain ⟨sameState, -, sameAccepted, sameGood, -, sameHunt⟩ := heardMarker_fields e m d
    have taken : (heardMarker e m d).follow .keywait d.accepted d.good 0 d.hunt =
        { heardMarker e m d with miss := 0 } := by
      unfold Descrambler.follow
      rw [← sameAccepted, ← sameGood, ← sameHunt, ← (sameState.trans state)]
    rw [taken, ← askedIf_announce announce]
    rfl
  · have leads := markerFrame_keywait_pending held due still expected offset isFound counted state
      ((isNamed m).not.mp unnamed) data pending ((namesPending_iff p data).mpr ⟨nonce, epoch⟩)
    refine ⟨fun w words => joined ?_, fun awaited => act _ ?_⟩
    · rw [words, if_pos Option.isSome_some, namePending_delivered (d := risen) pending words] at leads
      exact leads
    · rw [awaited, if_neg (by simp), namePending_awaited (d := risen) pending awaited] at leads
      exact leads
  all_goals
    have leads := markerFrame_keywait_missed held due still expected offset rfl state fun m isFound => by
      refine ⟨(miss m isFound).1, fun counted => ?_⟩
      obtain ⟨data, unnamed, unsought⟩ := (miss m isFound).2 counted
      refine ⟨data, (isNamed m).not.mp unnamed, fun p pending => ?_⟩
      rw [namesPending_iff p data, not_and_or]
      exact unsought p pending
  · have first' : x.descrambler.miss = 0 := first
    refine act _ (leads.trans ((if_neg (by omega)).trans ?_))
    rw [first']
    rfl
  · have second' : 1 ≤ x.descrambler.miss := second
    refine act _ (leads.trans ((if_pos (by omega)).trans ?_))
    rw [hunted (by rw [state]; decide)]
    rfl

end Sys2Proof.Machine
end

section
/-! PROOFS. A frame's pulse count: the Highway Interface in and outside LOCKED, the elastic store, the slips, and what the
words of the frame reach. -/

namespace Sys2Proof.Machine

open Sys2Proof.Safety

/-! ### What the words of a frame reach -/

section
variable {arrivals : List SlotWords} {first : List ContextId} {s : State}

theorem slot_superviseSlots (s : State) (i : SlotId) : (superviseSlots s).slot i =
    (s.slot i).superviseLine (lineDelivers s) (s.highway.lineWords.wordOf i) := slot_ofTable ..

theorem slot_takeWords (p : ContextId → Bool) (s : State) (i : SlotId) : (takeWords p s).slot i = s.slot i := rfl

theorem context_takeWords (p : ContextId → Bool) (s : State) (c : ContextId) : (takeWords p s).context c =
    if p c then (s.context c).map (Context.takeWord s.highway.lineWords) else s.context c := context_ofTable ..

theorem context_superviseSlots (s : State) (c : ContextId) : (superviseSlots s).context c = s.context c := rfl

/-- The slip that a frame makes, when it makes one (R14). -/
def slippedBy (o : Option Slip) (s : State) : State := o.elim s fun k => slip k s

theorem observeLine_eq (fresh : s.highway.observed = false) : observeLine arrivals first s =
    takeNibbles (takeWords (fun c => !first.contains c) (slippedBy (s.highway.observe arrivals).1
      (forEach first judgeMarkers (takeWords (first.contains ·) (superviseSlots
        (postUnstable s.highway.timing (s.withHighway (s.highway.observe arrivals).2))))))) := by
  unfold observeLine slippedBy
  rw [fresh, if_neg Bool.false_ne_true]
  dsimp only
  cases (s.highway.observe arrivals).1 <;> rfl

theorem lineDelivers_unlocked (unlocked : s.highway.timing ≠ .locked) : lineDelivers s = false := by
  have other : (s.highway.timing == .locked) = false := beq_eq_false_iff_ne.mpr unlocked
  rw [lineDelivers, other]
  rfl

theorem lineDelivers_locked (locked : s.highway.timing = .locked) (entered : s.highway.entered = false) :
    lineDelivers s = !s.highway.lossDue := by
  rw [lineDelivers, locked, entered]
  rfl

theorem takeNibbles_still (still : lineDelivers s = false) : takeNibbles s = s := by
  rw [takeNibbles, still, if_neg Bool.false_ne_true]

theorem countIdle_eq (r : Slot) : r.countIdle = idleCounted r := rfl

theorem superviseLine_still {r : Slot} (w : Word) (settled : r.changeDue = false) :
    r.superviseLine false w = idleCounted r := by
  unfold Slot.superviseLine
  rw [Bool.false_and, if_neg Bool.false_ne_true, if_neg (by rw [settled]; exact Bool.false_ne_true), countIdle_eq]

theorem postUnstable_state (before : Timing) (s : State) :
    postUnstable before s = { s with events := (postUnstable before s).events } := by
  unfold postUnstable
  split
  · exact post_eq ..
  · rfl

/-- A frame outside LOCKED reaches the idle durations and the descramblers alone (R9). -/
theorem observeLine_unlocked (fresh : s.highway.observed = false) (settled : ∀ i, (s.slot i).changeDue = false)
    (whole : (s.highway.observe arrivals).1 = none) (unlocked : (s.highway.observe arrivals).2.timing ≠ .locked)
    (idle : (s.highway.observe arrivals).2.lineWords = idleWords) :
    DeliversNothing s (observeLine arrivals [] s) ∧
      (observeLine arrivals [] s).highway = (s.highway.observe arrivals).2 ∧
      (observeLine arrivals [] s).events =
        (postUnstable s.highway.timing (s.withHighway (s.highway.observe arrivals).2)).events := by
  let h := (s.highway.observe arrivals).2
  let posted := postUnstable s.highway.timing (s.withHighway h)
  have same : posted = { s.withHighway h with events := posted.events } := postUnstable_state ..
  have highway : posted.highway = h := congrArg State.highway same
  have still : lineDelivers posted = false := lineDelivers_unlocked (by rw [highway]; exact unlocked)
  have seen : observeLine arrivals [] s =
      takeWords (fun _ => true) (takeWords (fun _ => false) (superviseSlots posted)) := by
    rw [observeLine_eq fresh, whole, takeNibbles_still]
    · rfl
    · exact still
  rw [seen]
  refine ⟨⟨fun i => ?_, fun c => ?_, ?_⟩, highway, rfl⟩
  · have slot : posted.slot i = s.slot i := by
      have kept := congrArg (fun u : State => u.slot i) same
      exact kept
    rw [slot_takeWords, slot_takeWords, slot_superviseSlots, still, slot, superviseLine_still _ (settled i)]
    rfl
  · have context : posted.context c = s.context c := by
      have kept := congrArg (fun u : State => u.context c) same
      exact kept
    rw [context_takeWords, if_pos rfl, context_takeWords, if_neg Bool.false_ne_true, context_superviseSlots, context]
    change (s.context c).map (Context.takeWord posted.highway.lineWords) = _
    rw [highway, idle]
  · change { posted with slots := _, contexts := _ } = _
    rw [same]
    rfl

end

theorem exec_linePulseFrame : ∀ (first : SlotWords) (second : Option SlotWords) (judged : List ContextId) (s : State),
    exec (.linePulseFrame first second judged) s = whileRunning (observeLine (first :: second.toList) judged) s := by
  intros; rfl

theorem exec_noPulseFrame : ∀ (judged : List ContextId) (s : State),
    exec (.noPulseFrame judged) s = whileRunning (observeLine [] judged) s := by
  intros; rfl

theorem getLastD_arrivals (first : SlotWords) (second : Option SlotWords) (latest : SlotWords) :
    (first :: second.toList).getLastD latest = second.getD first := by
  cases second <;> rfl

/-! ### Outside LOCKED -/

section
variable {arrivals : List SlotWords} {h : Highway}

theorem observe_lost_pulse (lost : h.timing = .lost) (first : SlotWords) (rest : List SlotWords) :
    h.observe (first :: rest) = (none, { h with
      observed := true, latest := (first :: rest).getLastD h.latest, lineWords := idleWords, timing := .unstable
      goodCount := 1, missRun := 0, lossHold := none }) := by
  unfold Highway.observe
  rw [lost]
  rfl

theorem observe_lost_silence (lost : h.timing = .lost) : h.observe [] = (none, { h with
    observed := true, lineWords := idleWords, missRun := min (h.missRun + 1) 16 }) := by
  unfold Highway.observe
  rw [lost]
  rfl

theorem observe_unstable_pulse (unstable : h.timing = .unstable) (first : SlotWords) (rest : List SlotWords) :
    h.observe (first :: rest) = (none, { h with
      observed := true, latest := (first :: rest).getLastD h.latest, lineWords := idleWords, missRun := 0
      goodCount := min (h.goodCount + 1) 64, lockDue := decide (min (h.goodCount + 1) 64 = 64) }) := by
  unfold Highway.observe
  rw [unstable]
  rfl

theorem observe_unstable_silence (unstable : h.timing = .unstable) : h.observe [] = (none, { h with
    observed := true, lineWords := idleWords, goodCount := 0, missRun := min (h.missRun + 1) 16
    lossDue := decide (h.lossWindow ≤ min (h.missRun + 1) 16) }) := by
  unfold Highway.observe
  rw [unstable]
  rfl

end

theorem postUnstable_silent {before : Timing} {s : State} (other : before ≠ .lost ∨ s.highway.timing ≠ .unstable) :
    postUnstable before s = s :=
  if_neg fun ⟨lost, unstable⟩ => other.elim (· lost) (· unstable)

/-- Settles O20: each pulse count outside LOCKED, in a frame that delivers nothing. -/
theorem pulsesCountOutsideLocked : Obligations.PulsesCountOutsideLocked := by
  intro first second s running fresh settled
  have leads (arrivals : List SlotWords) {h : Highway} (counts : s.highway.observe arrivals = (none, h))
      (unlocked : h.timing ≠ .locked) (idle : h.lineWords = idleWords) :
      DeliversNothing s (observeLine arrivals [] s) ∧ (observeLine arrivals [] s).highway = h ∧
        (observeLine arrivals [] s).events = (postUnstable s.highway.timing (s.withHighway h)).events := by
    have seen := observeLine_unlocked (arrivals := arrivals) fresh settled (by rw [counts]) (by rw [counts]; exact unlocked)
      (by rw [counts]; exact idle)
    rw [counts] at seen
    exact seen
  have quiet (h : Highway) (lost : h.timing = .lost) :
      (postUnstable s.highway.timing (s.withHighway h)).events = s.events := by
    rw [postUnstable_silent (s := s.withHighway h) (.inr (by rw [withHighway_highway, lost]; decide))]
    rfl
  rw [exec_linePulseFrame, whileRunning_running running, exec_noPulseFrame, whileRunning_running running]
  refine ⟨fun lost => ⟨⟨_, rfl, ?_⟩, ⟨_, rfl, ?_⟩⟩, fun unstable => ⟨⟨_, rfl, ?_⟩, ⟨_, rfl, ?_⟩⟩⟩
  · obtain ⟨nothing, highway, events⟩ := leads _ (observe_lost_pulse lost first second.toList) nofun rfl
    refine ⟨nothing, by rw [highway, getLastD_arrivals], events.trans ?_⟩
    rw [postUnstable, if_pos ⟨lost, rfl⟩]
    exact post_events_congr _ _ _ _ _ rfl rfl
  · obtain ⟨nothing, highway, events⟩ := leads _ (observe_lost_silence lost)
      (by rw [show Highway.timing _ = _ from lost]; decide) rfl
    exact ⟨nothing, highway, events.trans (quiet _ lost)⟩
  · obtain ⟨nothing, highway, events⟩ := leads _ (observe_unstable_pulse unstable first second.toList)
      (by rw [show Highway.timing _ = _ from unstable]; decide) rfl
    refine ⟨nothing, by rw [highway, getLastD_arrivals], events.trans ?_⟩
    rw [postUnstable_silent (.inl (by rw [unstable]; decide))]
    rfl
  · obtain ⟨nothing, highway, events⟩ := leads _ (observe_unstable_silence unstable)
      (by rw [show Highway.timing _ = _ from unstable]; decide) rfl
    refine ⟨nothing, highway, events.trans ?_⟩
    rw [postUnstable_silent (.inl (by rw [unstable]; decide))]
    rfl

/-! ### In LOCKED: the store -/

section
variable {arrivals : List SlotWords} {first : SlotWords} {second : Option SlotWords} {h : Highway}

theorem deliver_empty (empty : h.depth + arrivals.length = 0) :
    h.deliver arrivals = (some .again, { h with store := [], depth := 0, lineWords := h.delivered }) := if_pos empty

theorem deliver_kept (some : h.depth + arrivals.length ≠ 0) (few : h.depth + arrivals.length < 4) :
    h.deliver arrivals = (none, { h with
      store := (h.store ++ arrivals).drop 1, depth := min (h.depth + arrivals.length - 1) 2
      delivered := (h.store ++ arrivals).getD 0 h.delivered, lineWords := (h.store ++ arrivals).getD 0 h.delivered }) := by
  unfold Highway.deliver
  dsimp only
  rw [if_neg some, decide_eq_false (Nat.not_le.mpr few)]
  rfl

theorem deliver_dropped (many : 4 ≤ h.depth + arrivals.length) :
    h.deliver arrivals = (some .drop, { h with
      store := (h.store ++ arrivals).drop 2, depth := min (h.depth + arrivals.length - 1) 2
      delivered := (h.store ++ arrivals).getD 1 h.delivered, lineWords := (h.store ++ arrivals).getD 1 h.delivered }) := by
  unfold Highway.deliver
  dsimp only
  rw [if_neg (by omega), decide_eq_true many]
  rfl

theorem observe_locked_pulse (locked : h.timing = .locked) (rest : List SlotWords) : h.observe (first :: rest) =
    Highway.deliver (first :: rest) { h with
      observed := true, latest := (first :: rest).getLastD h.latest, lineWords := idleWords, missRun := 0 } := by
  unfold Highway.observe
  rw [locked]
  rfl

theorem observe_locked_lost (locked : h.timing = .locked) (window : h.lossWindow ≤ min (h.missRun + 1) 16) :
    h.observe [] = (none, { h with
      observed := true, lineWords := idleWords, missRun := min (h.missRun + 1) 16, lossDue := true }) := by
  unfold Highway.observe
  rw [locked]
  exact if_pos window

theorem observe_locked_silence (locked : h.timing = .locked) (short : min (h.missRun + 1) 16 < h.lossWindow) :
    h.observe [] = Highway.deliver [] { h with
      observed := true, lineWords := idleWords, missRun := min (h.missRun + 1) 16 } := by
  unfold Highway.observe
  rw [locked]
  exact if_neg (Nat.not_le.mpr short)

theorem getD_default {α : Type} {l : List α} {n : Nat} (short : n < l.length) (a b : α) : l.getD n a = l.getD n b := by
  rw [List.getD_eq_getElem _ _ short, List.getD_eq_getElem _ _ short]

variable (locked : h.timing = .locked) (store : h.store.length = h.depth)
include locked store

theorem observe_locked_kept (few : h.depth + (first :: second.toList).length < 4) :
    h.observe (first :: second.toList) = (none, { h with
      observed := true, latest := second.getD first, missRun := 0, depth := h.depth + second.toList.length
      store := (h.store ++ first :: second.toList).drop 1
      delivered := (h.store ++ first :: second.toList).getD 0 first
      lineWords := (h.store ++ first :: second.toList).getD 0 first }) := by
  have long : 0 < (h.store ++ first :: second.toList).length := by simp
  have depth : min (h.depth + (first :: second.toList).length - 1) 2 = h.depth + second.toList.length := by
    rw [List.length_cons] at few ⊢
    omega
  rw [observe_locked_pulse locked, deliver_kept (by simp) (by exact few), getLastD_arrivals]
  dsimp only
  rw [getD_default long h.delivered first, depth]

theorem observe_locked_dropped (many : h.depth + (first :: second.toList).length = 4) :
    h.observe (first :: second.toList) = (some .drop, { h with
      observed := true, latest := second.getD first, missRun := 0, depth := 2
      store := (h.store ++ first :: second.toList).drop 2
      delivered := (h.store ++ first :: second.toList).getD 1 first
      lineWords := (h.store ++ first :: second.toList).getD 1 first }) := by
  have long : 1 < (h.store ++ first :: second.toList).length := by
    rw [List.length_append, store, many]
    decide
  rw [observe_locked_pulse locked, deliver_dropped (by exact many.ge), getLastD_arrivals]
  dsimp only
  rw [getD_default long h.delivered first, many]
  rfl

theorem observe_locked_shorter (low : h.depth ≤ 2) (short : min (h.missRun + 1) 16 < h.lossWindow) (held : h.depth ≠ 0) :
    h.observe [] = (none, { h with
      observed := true, missRun := min (h.missRun + 1) 16, depth := h.depth - 1, store := h.store.drop 1
      delivered := h.store.getD 0 h.delivered, lineWords := h.store.getD 0 h.delivered }) := by
  have depth : min (h.depth + ([] : List SlotWords).length - 1) 2 = h.depth - 1 := by
    rw [List.length_nil]
    omega
  rw [observe_locked_silence locked short, deliver_kept (by simpa using held) (by simp; omega)]
  dsimp only
  rw [List.append_nil, depth]

theorem observe_locked_again (short : min (h.missRun + 1) 16 < h.lossWindow) (empty : h.depth = 0) :
    h.observe [] = (some .again, { h with
      observed := true, missRun := min (h.missRun + 1) 16, lineWords := h.delivered }) := by
  have none : h.store = [] := List.eq_nil_of_length_eq_zero (store.trans empty)
  rw [observe_locked_silence locked short, deliver_empty (by simpa using empty), ← none, ← empty]

end

end Sys2Proof.Machine
end

section
/-! PROOFS. A frame delivered in LOCKED: the markers judged before a slip, the slip, the words taken and the assemblers'
nibbles. -/

namespace Sys2Proof.Machine

open Sys2Proof.Safety

/-! ### Markers judged before the slip -/

section
variable {s : State}

theorem judgeMarkers_frame (c : ContextId) (s : State) : (judgeMarkers c s).highway = s.highway ∧
    (judgeMarkers c s).clock.timebase = s.clock.timebase := by
  obtain ⟨highway, -, -, timebase, -⟩ := moves_frame (judgeMarkers_moves (L := .clear) (s := s) c)
  exact ⟨highway, timebase⟩

theorem forEach_judgeMarkers_frame (first : List ContextId) (s : State) :
    (forEach first judgeMarkers s).highway = s.highway :=
  forEach_frame (view := State.highway) (fun c t => (judgeMarkers_frame c t).1) first s

/-- The markers taken in turn are the commands that take them (R153; log entry 9). -/
theorem judged_forEach (first : List ContextId) (running : Running s) : Judged first s (forEach first judgeMarkers s) := by
  induction first generalizing s with
  | nil => rfl
  | cons c rest ih =>
    have running' : Running (markerFrame c s) := by
      obtain ⟨-, -, -, timebase, -⟩ := moves_frame (markerFrame_moves (L := .clear) (s := s) c)
      exact fun stopped => running (timebase.symm.trans stopped)
    have running'' : Running (judgeMarkers c s) := fun stopped =>
      running ((judgeMarkers_frame c s).2.symm.trans stopped)
    refine ⟨markerFrame c s, judgeMarkers c s, ?_, ?_, ih running''⟩
    · rw [exec_markerFrame, whileRunning_running running]
    · rw [exec_huntMarkerFound, whileRunning_running running']
      rfl

/-! ### Supervision -/

theorem superviseLine_supervised {r : Slot} (delivers : Bool) (w : Word) (settled : r.changeDue = false) :
    r.superviseLine delivers w = supervised delivers w r := by
  have counted (t : Slot) (still : t.changeDue = false) : (if t.changeDue then t else t.countIdle) = idleCounted t := by
    rw [still]
    rfl
  unfold Slot.superviseLine supervised
  dsimp only
  by_cases acts : delivers = false ∨ r.filterFresh = true
  · have held : (delivers && !r.filterFresh) = false := by
      obtain h | h := acts <;> simp [h]
    rw [held, if_neg Bool.false_ne_true, counted r settled, if_pos acts]
  · have filters : (delivers && !r.filterFresh) = true := by
      rw [not_or] at acts
      simp [acts]
    rw [filters, if_pos rfl, if_neg acts]
    unfold Slot.filter
    by_cases unfiltered : r.filterLength = 0
    · rw [if_pos unfiltered, if_pos unfiltered]
      exact counted { r with filtered := _, candidate := _, persistence := _ } settled
    · rw [if_neg unfiltered, if_neg unfiltered]
      by_cases same : lineStateOf w = r.filtered
      · rw [if_pos same, if_pos same]
        exact counted { r with candidate := _, persistence := _ } settled
      · rw [if_neg same, if_neg same]
        by_cases again : lineStateOf w = r.candidate
        · rw [if_pos again, if_neg (not_not.mpr again)]
          by_cases short : r.persistence + 1 < 8 * r.filterLength
          · have early : decide (8 * r.filterLength ≤ r.persistence + 1) = r.changeDue := by
              rw [settled, decide_eq_false_iff_not]
              exact Nat.not_le.mpr short
            rw [if_pos short, early]
            exact counted { r with persistence := _ } settled
          · rw [if_neg short, decide_eq_true (Nat.not_lt.mp short)]
            rfl
        · rw [if_neg again, if_pos again]
          exact counted { r with candidate := _, persistence := _ } settled

/-- What supervision leaves of a slot record. -/
theorem superviseLine_kept (delivers : Bool) (w : Word) (r : Slot) : r.superviseLine delivers w = { r with
    filtered := (r.superviseLine delivers w).filtered, candidate := (r.superviseLine delivers w).candidate
    persistence := (r.superviseLine delivers w).persistence, changeDue := (r.superviseLine delivers w).changeDue
    idle := (r.superviseLine delivers w).idle } := by
  unfold Slot.superviseLine Slot.filter Slot.countIdle
  dsimp only
  repeat' split
  all_goals rfl

/-! ### The assemblers -/

theorem takesNibbles_iff (r : Slot) :
    r.takesNibbles = true ↔ r.kind = .extension ∧ (r.gate = .closed ∨ r.gate = .passing) := by
  simp [Slot.takesNibbles]

theorem foldl_unchanged {α β : Type} (l : List α) (b : β) : l.foldl (fun t _ => t) b = b := by
  induction l with
  | nil => rfl
  | cons _ rest ih => exact ih

/-- The assemblers' nibbles of a frame (R37, R39). -/
theorem takeNibbles_eq {delivers : Bool} {words : SlotWords} (delivering : lineDelivers s = delivers)
    (lineWords : s.highway.lineWords = words) : takeNibbles s = assembled delivers words s := by
  unfold takeNibbles assembled
  rw [delivering, lineWords]
  cases delivers with
  | false =>
    rw [if_neg Bool.false_ne_true]
    simp only [Bool.false_eq_true, false_and, if_false]
    exact (foldl_unchanged slotIds s).symm
  | true =>
    rw [if_pos rfl]
    simp only [takesNibbles_iff, true_and]
    rfl

/-- Actions that each touch their own slot record, on a list of slots. -/
theorem forEach_own {g : SlotId → Slot → Slot} {f : SlotId → State → State} {xs : List SlotId} (nodup : xs.Nodup)
    (own : ∀ i t, t.slot i = s.slot i → f i t = onSlot i (g i) t) :
    forEach xs f s = { s with slots := (forEach xs f s).slots } ∧
      ∀ j, (forEach xs f s).slot j = if j ∈ xs then g j (s.slot j) else s.slot j := by
  have general (t : State) (untouched : ∀ i ∈ xs, t.slot i = s.slot i) :
      forEach xs f t = { t with slots := (forEach xs f t).slots } ∧
        ∀ j, (forEach xs f t).slot j = if j ∈ xs then g j (t.slot j) else t.slot j := by
    induction xs generalizing t with
    | nil => exact ⟨rfl, fun j => (if_neg List.not_mem_nil).symm⟩
    | cons i rest ih =>
      obtain ⟨absent, nodup'⟩ := List.nodup_cons.mp nodup
      have acted : f i t = onSlot i (g i) t := own i t (untouched i List.mem_cons_self)
      have others (j : SlotId) (member : j ∈ rest) : (onSlot i (g i) t).slot j = t.slot j := by
        rw [slot_onSlot, if_neg fun same : i = j => absent (same ▸ member)]
      obtain ⟨state, slots⟩ := ih nodup' (onSlot i (g i) t) fun j member =>
        (others j member).trans (untouched j (List.mem_cons_of_mem i member))
      rw [forEach_cons, acted]
      refine ⟨?_, fun j => ?_⟩
      · rw [state]
        rfl
      · rw [slots j, slot_onSlot]
        by_cases same : i = j
        · subst same
          rw [if_neg absent, if_pos rfl, if_pos List.mem_cons_self]
        · rw [if_neg same]
          simp only [List.mem_cons, eq_comm (a := j), same, false_or]
  exact general s fun _ _ => rfl

/-- A hunting assembler, with previous nibble `p`, after nibble `x` (R39). -/
def hunted (p : Option Nibble) (x : Nibble) : Assembler :=
  if p = some 0xA ∧ x = 5 then .length none else .hunt (some x)

theorem takeNibble_hunting {i : SlotId} {p : Option Nibble} (hunting : (s.slot i).assembler = .hunt p) (x : Nibble) :
    takeNibble i x s = onSlot i (fun r => { r with assembler := hunted p x }) s := by
  unfold takeNibble hunted
  rw [hunting]
  dsimp only
  split <;> rfl

/-- While every assembler hunts, a frame's nibbles change the assemblers alone (R39). -/
theorem assembled_hunting (delivers : Bool) (words : SlotWords)
    (hunting : ∀ i, ∃ p, (s.slot i).assembler = .hunt p) :
    assembled delivers words s = { s with slots := (assembled delivers words s).slots } ∧
      ∀ i, (assembled delivers words s).slot i = hears delivers (words.wordOf i) (s.slot i) := by
  have own (i : SlotId) (t : State) (untouched : t.slot i = s.slot i) :
      (if delivers = true ∧ (t.slot i).kind = .extension ∧ ((t.slot i).gate = .closed ∨ (t.slot i).gate = .passing) then
        takeNibble i (auxOf (words.wordOf i)) t else t) = onSlot i (hears delivers (words.wordOf i)) t := by
    obtain ⟨p, hunts⟩ := hunting i
    have hunts' : (t.slot i).assembler = .hunt p := untouched ▸ hunts
    have heard : hears delivers (words.wordOf i) (t.slot i) =
        if delivers = true ∧ (t.slot i).kind = .extension ∧ ((t.slot i).gate = .closed ∨ (t.slot i).gate = .passing) then
          { t.slot i with assembler := hunted p (auxOf (words.wordOf i)) }
        else t.slot i := by
      unfold hears hunted
      rw [hunts']
    rw [onSlot, heard]
    split
    · exact takeNibble_hunting hunts' _
    · exact (withSlot_slot ..).symm
  obtain ⟨state, slots⟩ := forEach_own (List.nodup_finRange 127) own
  refine ⟨state, fun i => (slots i).trans (if_pos (List.mem_finRange i))⟩

end

/-! ### A frame in LOCKED -/

section
variable {arrivals : List SlotWords} {first : List ContextId} {h : Highway} {o : Option Slip} {s : State}

/-- The state once the slots are supervised and the contexts judged first have taken their words. -/
def superviseFirst (first : List ContextId) (h : Highway) (s : State) : State :=
  takeWords (first.contains ·) (superviseSlots (s.withHighway h))

/-- The state before the assemblers take their nibbles. -/
def lineSeen (first : List ContextId) (h : Highway) (o : Option Slip) (s : State) : State :=
  takeWords (fun c => !first.contains c) (slippedBy o (forEach first judgeMarkers (superviseFirst first h s)))

theorem observeLine_locked (fresh : s.highway.observed = false) (locked : s.highway.timing = .locked)
    (seen : s.highway.observe arrivals = (o, h)) : observeLine arrivals first s = takeNibbles (lineSeen first h o s) := by
  rw [observeLine_eq fresh, seen, postUnstable_silent (.inl (by rw [locked]; decide))]
  rfl

theorem slippedBy_state (o : Option Slip) (s : State) : slippedBy o s = { s with
    highway := { s.highway with
      slipCount := if o.isSome then min (s.highway.slipCount + 1) 65535 else s.highway.slipCount }
    events := match o.map Slip.code with
      | none => s.events
      | some code => (post .slip none none none code s).events
    contexts := (slippedBy o s).contexts } := by
  cases o with
  | none => rfl
  | some k =>
    have counted (u : State) (h : Highway) : post .slip none none none k.code (u.withHighway h) =
        { u.withHighway h with events := (post .slip none none none k.code u).events } := by
      have events : (post .slip none none none k.code (u.withHighway h)).events =
          (post .slip none none none k.code u).events := post_events_congr _ _ _ _ _ rfl rfl
      rw [post_eq, events]
    have slipped (u : State) : slip k u = { post .slip none none none k.code
        (u.withHighway { u.highway with slipCount := raise Config.count16Max u.highway.slipCount }) with
          contexts := (slip k u).contexts } := rfl
    change slip k s = _
    rw [slipped, counted]
    rfl

theorem context_slippedBy (o : Option Slip) (s : State) (c : ContextId) :
    (slippedBy o s).context c = (s.context c).map fun x => if o.isSome then x.slipped else x := by
  cases o with
  | none => exact Option.map_id'.symm
  | some k =>
    change (slip k s).context c = _
    unfold slip
    dsimp only
    rw [context_mapTable, context_post]
    rfl

theorem lineSeen_highway (first : List ContextId) (h : Highway) (o : Option Slip) (s : State) :
    (lineSeen first h o s).highway = { h with
      slipCount := if o.isSome then min (h.slipCount + 1) 65535 else h.slipCount } := by
  have slipped := congrArg State.highway (slippedBy_state o (forEach first judgeMarkers (superviseFirst first h s)))
  have kept : (forEach first judgeMarkers (superviseFirst first h s)).highway = h := forEach_judgeMarkers_frame ..
  rw [kept] at slipped
  exact slipped

/-- A frame in LOCKED takes its line as `LineTaken` says (R13, R14, R22, R24, R37, R153). -/
theorem observeLine_lineTaken (running : Running s) (fresh : s.highway.observed = false)
    (locked : s.highway.timing = .locked) (seen : s.highway.observe arrivals = (o, h)) (timing : h.timing = .locked)
    (entered : h.entered = false) : LineTaken first h (o.map Slip.code) s (observeLine arrivals first s) := by
  have delivering : lineDelivers (s.withHighway h) = !h.lossDue := lineDelivers_locked timing entered
  have some' : (o.map Slip.code).isSome = o.isSome := Option.isSome_map
  have slipped := slippedBy_state o (forEach first judgeMarkers (superviseFirst first h s))
  refine ⟨superviseFirst first h s, forEach first judgeMarkers (superviseFirst first h s), lineSeen first h o s,
    judged_forEach first running, rfl, fun i settled => ?_, fun c => ?_, ?_, fun c => ?_, ?_⟩
  · rw [superviseFirst, slot_takeWords, slot_superviseSlots, delivering]
    exact superviseLine_supervised _ _ settled
  · rw [superviseFirst, context_takeWords]
    simp only [List.contains_iff_mem]
    rfl
  · rw [some']
    have put := congrArg (fun u : State => { u with contexts := (lineSeen first h o s).contexts }) slipped
    exact put
  · have words : (slippedBy o (forEach first judgeMarkers (superviseFirst first h s))).highway.lineWords = h.lineWords := by
      have kept := congrArg Highway.lineWords (lineSeen_highway first h o s)
      exact kept
    rw [lineSeen, context_takeWords, words, context_slippedBy, some']
    by_cases member : c ∈ first
    · simp [member]
    · simp only [member, Bool.not_eq_true', if_false, List.contains_eq_mem, decide_false, if_true, Option.map_map]
      rfl
  · rw [observeLine_locked fresh locked seen]
    have highway := lineSeen_highway first h o s
    refine takeNibbles_eq ?_ (by rw [highway])
    rw [lineDelivers_locked (by rw [highway]; exact timing) (by rw [highway]; exact entered), highway]

end

end Sys2Proof.Machine
end

section
/-! PROOFS. The law of a frame delivered in LOCKED. -/

namespace Sys2Proof.Machine

open Sys2Proof.Safety

section
variable {arrivals : List SlotWords} {h : Highway} {o : Option Slip} {s : State}

/-- What a nibble at a hunting assembler leaves of a slot record. -/
theorem hears_kept (delivers : Bool) (w : Word) (r : Slot) :
    hears delivers w r = { r with assembler := (hears delivers w r).assembler } := by
  unfold hears
  cases r.assembler with
  | hunt p =>
    dsimp only
    split <;> rfl
  | _ => rfl

/-- What a frame in LOCKED leads to, and that it changes nothing but the line side, the slots, the contexts and the
events: `t` follows `s` when the Highway Interface becomes `h` before the slip `o` is counted. -/
structure Delivered (h : Highway) (o : Option Slip) (s t : State) : Prop where
  rest : t = { s with highway := t.highway, events := t.events, slots := t.slots, contexts := t.contexts }
  highway : t.highway = { h with slipCount := if o.isSome then min (h.slipCount + 1) 65535 else h.slipCount }
  events : t.events = match o.map Slip.code with
    | none => s.events
    | some code => (post .slip none none none code s).events
  contexts : ∀ c, t.context c =
    (s.context c).map fun x => (if o.isSome then x.slipped else x).takeWord h.lineWords
  slots : ∀ i, t.slot i = hears (!h.lossDue) (h.lineWords.wordOf i)
    ((s.slot i).superviseLine (!h.lossDue) (h.lineWords.wordOf i))

theorem lineSeen_hunting (timing : h.timing = .locked) (entered : h.entered = false) :
    (lineSeen [] h o s = { s with
      highway := (lineSeen [] h o s).highway, events := (lineSeen [] h o s).events
      slots := (lineSeen [] h o s).slots, contexts := (lineSeen [] h o s).contexts }) ∧
    ((lineSeen [] h o s).events = match o.map Slip.code with
      | none => s.events
      | some code => (post .slip none none none code s).events) ∧
    (∀ c, (lineSeen [] h o s).context c =
      (s.context c).map fun x => (if o.isSome then x.slipped else x).takeWord h.lineWords) ∧
    ∀ i, (lineSeen [] h o s).slot i = (s.slot i).superviseLine (!h.lossDue) (h.lineWords.wordOf i) := by
  have delivering : lineDelivers (s.withHighway h) = !h.lossDue := lineDelivers_locked timing entered
  have slipped := slippedBy_state o (superviseFirst [] h s)
  have words : (slippedBy o (superviseFirst [] h s)).highway.lineWords = h.lineWords := by
    have kept := congrArg Highway.lineWords (lineSeen_highway [] h o s)
    exact kept
  refine ⟨?_, ?_, fun c => ?_, fun i => ?_⟩
  · have put := congrArg (fun u : State => { u with
      highway := (lineSeen [] h o s).highway, events := (lineSeen [] h o s).events
      slots := (lineSeen [] h o s).slots, contexts := (lineSeen [] h o s).contexts }) slipped
    exact put
  · have events := congrArg State.events slipped
    refine (events : (lineSeen [] h o s).events = _).trans ?_
    cases o with
    | none => rfl
    | some k => exact post_events_congr _ _ _ _ _ rfl rfl
  · have context : (superviseFirst [] h s).context c = s.context c := context_takeWords ..
    change (takeWords _ (slippedBy o (superviseFirst [] h s))).context c = _
    rw [context_takeWords, words, context_slippedBy, context]
    exact (if_pos rfl).trans (Option.map_map ..)
  · have kept := congrArg (fun u : State => u.slot i) slipped
    refine Eq.trans (kept : (lineSeen [] h o s).slot i = _) ?_
    change (superviseSlots (s.withHighway h)).slot i = _
    rw [slot_superviseSlots, delivering]
    rfl

theorem observeLine_delivered (fresh : s.highway.observed = false) (locked : s.highway.timing = .locked)
    (seen : s.highway.observe arrivals = (o, h)) (timing : h.timing = .locked) (entered : h.entered = false)
    (hunting : ∀ i, ∃ p, (s.slot i).assembler = .hunt p) : Delivered h o s (observeLine arrivals [] s) := by
  obtain ⟨rest, events, contexts, slots⟩ := lineSeen_hunting (s := s) (o := o) timing entered
  have highway := lineSeen_highway [] h o s
  have hunting' (i : SlotId) : ∃ p, ((lineSeen [] h o s).slot i).assembler = .hunt p := by
    rw [slots i, superviseLine_kept]
    exact hunting i
  have nibbles : takeNibbles (lineSeen [] h o s) = assembled (!h.lossDue) h.lineWords (lineSeen [] h o s) := by
    refine takeNibbles_eq ?_ (by rw [highway])
    rw [lineDelivers_locked (by rw [highway]; exact timing) (by rw [highway]; exact entered), highway]
  obtain ⟨state, heard⟩ := assembled_hunting (!h.lossDue) h.lineWords hunting'
  rw [observeLine_locked fresh locked seen, nibbles]
  refine ⟨?_, ?_, ?_, fun c => ?_, fun i => ?_⟩
  · rw [state]
    have put := congrArg (fun u : State => { u with
      slots := (assembled (!h.lossDue) h.lineWords (lineSeen [] h o s)).slots }) rest
    exact put
  · rw [state]
    exact highway
  · rw [state]
    exact events
  · rw [state]
    exact contexts c
  · rw [heard i, slots i]

/-- The clauses of the law that hold of every frame in LOCKED. -/
theorem Delivered.alone {t : State} (delivered : Delivered h o s t) :
    t = { s with highway := t.highway, events := t.events, slots := t.slots, contexts := t.contexts } ∧
      ∀ i, (t.slot i).kind = (s.slot i).kind ∧ (t.slot i).admission = (s.slot i).admission ∧
        (t.slot i).txQueue = (s.slot i).txQueue ∧ (t.slot i).garbled = (s.slot i).garbled ∧
        (t.slot i).filterLength = (s.slot i).filterLength ∧
        ((s.slot i).changeDue = false →
          t.slot i = hears (!t.highway.lossDue) (t.highway.lineWords.wordOf i)
            (supervised (!t.highway.lossDue) (t.highway.lineWords.wordOf i) (s.slot i))) := by
  refine ⟨delivered.rest, fun i => ?_⟩
  have kept : t.slot i = { s.slot i with
      filtered := (t.slot i).filtered, candidate := (t.slot i).candidate, persistence := (t.slot i).persistence
      changeDue := (t.slot i).changeDue, idle := (t.slot i).idle, assembler := (t.slot i).assembler } := by
    rw [delivered.slots i, hears_kept, superviseLine_kept]
  refine ⟨?_, ?_, ?_, ?_, ?_, fun settled => ?_⟩
  case refine_6 =>
    rw [delivered.slots i, superviseLine_supervised _ _ settled, delivered.highway]
  all_goals rw [kept]

end

/-- Settles O21: each case of the store, with `observeLine_delivered` while the assemblers hunt and
`observeLine_lineTaken` in general. -/
theorem storeDeliversAndSlips : Obligations.StoreDeliversAndSlips := by
  intro first second s running fresh locked entered unlost store low alone missed frames kept dropped shorter again lost
    slipped
  have pulse (judged : List ContextId) : exec (.linePulseFrame first second judged) s =
      .next (observeLine (first :: second.toList) judged s) := by
    rw [exec_linePulseFrame, whileRunning_running running]
  have silence (judged : List ContextId) : exec (.noPulseFrame judged) s = .next (observeLine [] judged s) := by
    rw [exec_noPulseFrame, whileRunning_running running]
  have seenKept := observe_locked_kept (first := first) (second := second) locked store
  have seenDropped := observe_locked_dropped (first := first) (second := second) locked store
  have seenShorter := observe_locked_shorter locked store low
  have seenAgain := observe_locked_again locked store
  have seenLost := observe_locked_lost (h := s.highway) locked
  have few : s.highway.depth + (first :: second.toList).length < 4 ∨
      s.highway.depth + (first :: second.toList).length = 4 := by
    have short : second.toList.length ≤ 1 := by cases second <;> simp
    rw [List.length_cons]
    omega
  refine ⟨fun hunting => ⟨⟨_, pulse [], ?_, fun below => ?_, fun full => ?_⟩,
    ⟨_, silence [], ?_, fun short held => ?_, fun short empty => ?_, fun window => ?_⟩⟩, fun judged => ⟨⟨_, pulse judged,
      fun below => ?_, fun full => ?_⟩, ⟨_, silence judged, fun short held => ?_, fun short empty => ?_,
        fun window => ?_⟩⟩⟩
  case refine_1 =>
    obtain below | full := few
    · exact (observeLine_delivered fresh locked (seenKept below) locked entered hunting).alone
    · exact (observeLine_delivered fresh locked (seenDropped full) locked entered hunting).alone
  case refine_2 =>
    have frame := observeLine_delivered fresh locked (seenKept below) locked entered hunting
    exact ⟨frame.highway, frame.events, fun c => (frame.contexts c).trans (by rw [frame.highway]; rfl)⟩
  case refine_3 =>
    have frame := observeLine_delivered fresh locked (seenDropped full) locked entered hunting
    exact ⟨frame.highway, frame.events, fun c => (frame.contexts c).trans (by rw [frame.highway]; rfl)⟩
  case refine_4 =>
    by_cases window : s.highway.lossWindow ≤ min (s.highway.missRun + 1) 16
    · exact (observeLine_delivered fresh locked (seenLost window) locked entered hunting).alone
    · by_cases empty : s.highway.depth = 0
      · exact (observeLine_delivered fresh locked (seenAgain (Nat.not_le.mp window) empty) locked entered hunting).alone
      · exact (observeLine_delivered fresh locked (seenShorter (Nat.not_le.mp window) empty) locked entered
          hunting).alone
  case refine_5 =>
    have frame := observeLine_delivered fresh locked (seenShorter short held) locked entered hunting
    exact ⟨frame.highway, frame.events, fun c => (frame.contexts c).trans (by rw [frame.highway]; rfl)⟩
  case refine_6 =>
    have frame := observeLine_delivered fresh locked (seenAgain short empty) locked entered hunting
    exact ⟨frame.highway, frame.events, fun c => (frame.contexts c).trans (by rw [frame.highway]; rfl)⟩
  case refine_7 =>
    have frame := observeLine_delivered fresh locked (seenLost window) locked entered hunting
    exact ⟨frame.highway, frame.events, frame.contexts⟩
  case refine_8 => exact observeLine_lineTaken running fresh locked (seenKept below) locked entered
  case refine_9 => exact observeLine_lineTaken running fresh locked (seenDropped full) locked entered
  case refine_10 => exact observeLine_lineTaken running fresh locked (seenShorter short held) locked entered
  case refine_11 => exact observeLine_lineTaken running fresh locked (seenAgain short empty) locked entered
  case refine_12 => exact observeLine_lineTaken running fresh locked (seenLost window) locked entered

end Sys2Proof.Machine
end

section
/-! PROOFS. Actions on every slot in turn, the abandons of sign-ons, and the entries to LOCKED and LOST. -/

namespace Sys2Proof.Machine

open Sys2Proof.Safety

/-! ### Actions on every slot in turn -/

/-- Actions that each change their own slot record by `g`, along a list of slots and where `P` holds. -/
theorem forEach_slots {P : State → Prop} {g : SlotId → Slot → Slot} {f : SlotId → State → State}
    (keeps : ∀ i t, P t → P (f i t)) (self : ∀ i t, P t → (f i t).slot i = g i (t.slot i))
    (other : ∀ i j t, P t → i ≠ j → (f i t).slot j = t.slot j) {xs : List SlotId} (nodup : xs.Nodup) {s : State}
    (holds : P s) (j : SlotId) : (forEach xs f s).slot j = if j ∈ xs then g j (s.slot j) else s.slot j := by
  induction xs generalizing s with
  | nil => exact (if_neg List.not_mem_nil).symm
  | cons i rest ih =>
    obtain ⟨absent, nodup'⟩ := List.nodup_cons.mp nodup
    rw [forEach_cons, ih nodup' (keeps i s holds)]
    by_cases same : i = j
    · subst same
      rw [if_neg absent, if_pos List.mem_cons_self, self i s holds]
    · rw [other i j s holds same]
      simp only [List.mem_cons, eq_comm (a := j), same, false_or]

/-- Every slot of the part is acted on. -/
theorem forEach_slotIds {P : State → Prop} {g : SlotId → Slot → Slot} {f : SlotId → State → State}
    (keeps : ∀ i t, P t → P (f i t)) (self : ∀ i t, P t → (f i t).slot i = g i (t.slot i))
    (other : ∀ i j t, P t → i ≠ j → (f i t).slot j = t.slot j) {s : State} (holds : P s) (j : SlotId) :
    (forEach slotIds f s).slot j = g j (s.slot j) :=
  (forEach_slots keeps self other (List.nodup_finRange 127) holds j).trans (if_pos (List.mem_finRange j))

/-! ### Abandons in turn -/

/-- A slot record once its sign-on has been abandoned (R74). -/
def Slot.abandoned (r : Slot) : Slot :=
  if r.signingOn then { r with admission := .locked, responseTimer := none, challenge := none } else r

theorem abandoned_signing {r : Slot} (signing : r.signingOn = true) :
    r.abandoned = { r with admission := .locked, responseTimer := none, challenge := none } := if_pos signing

theorem abandoned_idle {r : Slot} (idle : r.signingOn = false) : r.abandoned = r :=
  if_neg (by rw [idle]; exact Bool.false_ne_true)

theorem slot_abandon_self (i : SlotId) (s : State) : (abandon i s).slot i = (s.slot i).abandoned := by
  rw [slot_abandon]
  simp only [true_and]
  rfl

theorem slot_abandon_other {i j : SlotId} (other : i ≠ j) (s : State) : (abandon i s).slot j = s.slot j := by
  rw [slot_abandon, if_neg fun both => other both.1]

theorem slot_forEach_abandon (s : State) (j : SlotId) : (forEach slotIds abandon s).slot j = (s.slot j).abandoned :=
  forEach_slotIds (P := fun _ => True) (g := fun _ r => r.abandoned) (fun _ _ _ => trivial)
    (fun i t _ => slot_abandon_self i t) (fun _ _ t _ other => slot_abandon_other other t) trivial j

/-- Two withdrawals are one (R92). -/
theorem withdraw_withdraw (p q : Job → Bool) (e : Engine) :
    (e.withdraw p).withdraw q = e.withdraw fun j => p j || q j := by
  have aborts : ((e.requests.any fun r => r.inFlight && p r.job) ||
      (e.requests.filter fun r => !p r.job).any fun r => r.inFlight && q r.job) =
        e.requests.any fun r => r.inFlight && (p r.job || q r.job) := by
    rw [List.any_filter, Bool.eq_iff_iff]
    simp only [Bool.or_eq_true, List.any_eq_true, Bool.and_eq_true, Bool.not_eq_true']
    constructor
    · rintro (⟨r, listed, flown, selected⟩ | ⟨r, listed, -, flown, selected⟩)
      · exact ⟨r, listed, flown, .inl selected⟩
      · exact ⟨r, listed, flown, .inr selected⟩
    · rintro ⟨r, listed, flown, selected⟩
      cases first : p r.job with
      | true => exact .inl ⟨r, listed, flown, first⟩
      | false => exact .inr ⟨r, listed, first, flown, selected.resolve_left (by simp [first])⟩
  unfold Engine.withdraw
  dsimp only
  rw [List.filter_filter, ← aborts]
  congr 1
  · rw [Bool.or_assoc]
  · cases e.requests.any fun r => r.inFlight && p r.job <;>
      cases (e.requests.filter fun r => !p r.job).any fun r => r.inFlight && q r.job <;> rfl
  · simp only [Bool.not_or, Bool.and_comm]

theorem withdraw_nothing (e : Engine) : (e.withdraw fun _ => false) = e := by
  have kept : (e.requests.filter fun _ => !false) = e.requests := List.filter_true ..
  have still : (e.requests.any fun r => r.inFlight && false) = false := by simp
  unfold Engine.withdraw
  dsimp only
  rw [kept, still, Bool.or_false]
  rfl

theorem clearPending_engine (i : SlotId) (s : State) : (clearPending i s).engine = s.engine := by
  rw [clearPending_eq]
  cases pendingRecord i s <;> rfl

theorem abandon_engine (i : SlotId) (s : State) : (abandon i s).engine =
    s.engine.withdraw fun j => (s.slot i).signingOn && j.isVerifyOf i := by
  by_cases signing : (s.slot i).signingOn = true
  · rw [abandon_signing signing, signing]
    have selects : (fun j : Job => true && j.isVerifyOf i) = Job.isVerifyOf i := funext fun _ => Bool.true_and _
    rw [selects, onSlot, withSlot_engine, clearPending_engine, withdraw_engine]
  · rw [Bool.not_eq_true] at signing
    rw [abandon_idle signing, signing]
    exact (withdraw_nothing s.engine).symm

/-- The requests that a list of abandons withdraws. -/
theorem forEach_abandon_engine {xs : List SlotId} (nodup : xs.Nodup) (s : State) : (forEach xs abandon s).engine =
    s.engine.withdraw fun j => xs.any fun i => (s.slot i).signingOn && j.isVerifyOf i := by
  induction xs generalizing s with
  | nil => exact (withdraw_nothing s.engine).symm
  | cons i rest ih =>
    obtain ⟨absent, nodup'⟩ := List.nodup_cons.mp nodup
    rw [forEach_cons, ih nodup', abandon_engine, withdraw_withdraw]
    refine congrArg s.engine.withdraw (funext fun j => ?_)
    rw [List.any_cons]
    refine congrArg _ ?_
    rw [Bool.eq_iff_iff, List.any_eq_true, List.any_eq_true]
    refine exists_congr fun k => and_congr_right fun member => ?_
    rw [slot_abandon_other fun same : i = k => absent (same ▸ member)]

theorem abandon_state (i : SlotId) (s : State) : abandon i s = { s with
    slots := (abandon i s).slots, directory := (abandon i s).directory, engine := (abandon i s).engine } := by
  by_cases signing : (s.slot i).signingOn = true
  · rw [abandon_signing signing, clearPending_eq]
    cases pendingRecord i (withdraw (Job.isVerifyOf i) s) <;> rfl
  · rw [abandon_idle (by simpa using signing)]

theorem forEach_abandon_state (xs : List SlotId) (s : State) : forEach xs abandon s = { s with
    slots := (forEach xs abandon s).slots, directory := (forEach xs abandon s).directory
    engine := (forEach xs abandon s).engine } :=
  forEach_keeps (P := fun t => t = { s with slots := t.slots, directory := t.directory, engine := t.engine })
    (fun i t same => by
      rw [abandon_state i t, same])
    xs s rfl

theorem record_abandon (i : SlotId) (s : State) (r : RecordId) : (abandon i s).record r = s.record r ∨
    (abandon i s).record r = (s.record r).map fun x => { x with pendingSlot := none } := by
  by_cases signing : (s.slot i).signingOn = true
  · rw [abandon_signing signing, record_onSlot]
    have cleared := record_clearPending i (withdraw (Job.isVerifyOf i) s) r
    rwa [record_withdraw] at cleared
  · rw [abandon_idle (by simpa using signing)]
    exact .inl rfl

/-- Actions that may take a record's pending sign-on, along a list. -/
theorem forEach_pending {f : SlotId → State → State} (each : ∀ i t r, (f i t).record r = t.record r ∨
    (f i t).record r = (t.record r).map fun x => { x with pendingSlot := none }) (xs : List SlotId) (s : State)
    (r : RecordId) : (forEach xs f s).record r = s.record r ∨
      (forEach xs f s).record r = (s.record r).map fun x => { x with pendingSlot := none } := by
  refine forEach_keeps (P := fun t => t.record r = s.record r ∨
    t.record r = (s.record r).map fun x => { x with pendingSlot := none }) (fun i t kept => ?_) xs s (.inl rfl)
  obtain same | cleared := each i t r
  · rw [same]
    exact kept
  · obtain before | before := kept
    · rw [cleared, before]
      exact .inr rfl
    · rw [cleared, before, Option.map_map]
      exact .inr rfl

/-! ### The entries -/

theorem exec_entryToLocked : ∀ s : State, exec .entryToLocked s = whileRunning entryToLocked s := by
  intros; rfl

theorem exec_entryToLost : ∀ s : State, exec .entryToLost s = whileRunning entryToLost s := by
  intros; rfl

section
variable {s : State}

/-- The Highway Interface entering LOCKED, before the realignment is counted (R6, R15). -/
def Highway.locking (h : Highway) : Highway :=
  { h with timing := .locked, lockDue := false, entered := true, depth := 1, store := [h.latest] }

theorem entryToLocked_eq (due : s.highway.lockDue = true) : entryToLocked s =
    post .lineState none none none 2 (slippedBy (some .realign) (s.withHighway s.highway.locking)) := if_pos due

theorem entryToLocked_state (due : s.highway.lockDue = true) : entryToLocked s = { s with
    highway := { s.highway.locking with slipCount := min (s.highway.slipCount + 1) 65535 }
    events := (post .lineState none none none 2 (post .slip none none none 3 s)).events
    contexts := (entryToLocked s).contexts } := by
  have slipped := slippedBy_state (some .realign) (s.withHighway s.highway.locking)
  have first : (slippedBy (some .realign) (s.withHighway s.highway.locking)).events =
      (post .slip none none none 3 s).events :=
    (congrArg State.events slipped).trans (post_events_congr _ _ _ _ _ rfl rfl)
  have clock : (slippedBy (some .realign) (s.withHighway s.highway.locking)).clock =
      (post .slip none none none 3 s).clock := by
    have kept := congrArg State.clock slipped
    rw [post_clock]
    exact kept
  have second := post_events_congr .lineState none none none 2 first clock
  rw [entryToLocked_eq due, post_eq, second]
  have put := congrArg (fun u : State => { u with
    events := (post .lineState none none none 2 (post .slip none none none 3 s)).events }) slipped
  exact put

theorem context_entryToLocked (due : s.highway.lockDue = true) (c : ContextId) :
    (entryToLocked s).context c = (s.context c).map Context.slipped := by
  rw [entryToLocked_eq due, context_post, context_slippedBy]
  rfl

/-- The Highway Interface entering LOST (R10). -/
def Highway.losing (h : Highway) : Highway :=
  { h with timing := .lost, goodCount := 0, lossDue := false, lossHold := some { elapsed := 0, due := false } }

/-- The state entering LOST before its sign-ons are abandoned (R10). -/
def lineLost (s : State) : State :=
  { post .lineState none none none 0 (s.withHighway s.highway.losing) with
    slots := mapTable Slot.loseLine (post .lineState none none none 0 (s.withHighway s.highway.losing)).slots }

theorem lineLost_state (s : State) : lineLost s = { s with
    highway := s.highway.losing, events := (post .lineState none none none 0 s).events, slots := (lineLost s).slots } := by
  have posted : (post .lineState none none none 0 (s.withHighway s.highway.losing)).events =
      (post .lineState none none none 0 s).events := post_events_congr _ _ _ _ _ rfl rfl
  have state := post_eq .lineState none none none 0 (s.withHighway s.highway.losing)
  rw [posted] at state
  have put := congrArg (fun u : State => { u with slots := (lineLost s).slots }) state
  exact put

theorem slot_lineLost (s : State) (i : SlotId) : (lineLost s).slot i = { s.slot i with assembler := .hunt none } := by
  unfold lineLost
  rw [slot_mapTable, slot_post]
  rfl

/-- Every descrambler meets a slip (R10, R14). -/
def slippedAll (s : State) : State := { s with contexts := mapTable (Option.map Context.slipped) s.contexts }

theorem slot_slippedAll (s : State) (i : SlotId) : (slippedAll s).slot i = s.slot i := rfl

theorem record_slippedAll (s : State) (r : RecordId) : (slippedAll s).record r = s.record r := rfl

theorem slippedAll_engine (s : State) : (slippedAll s).engine = s.engine := rfl

theorem context_slippedAll (s : State) (c : ContextId) : (slippedAll s).context c = (s.context c).map Context.slipped :=
  context_mapTable ..

theorem entryToLost_eq (due : s.highway.lossDue = true) :
    entryToLost s = slippedAll (forEach slotIds abandon (lineLost s)) := if_pos due

theorem entryToLost_state (due : s.highway.lossDue = true) : entryToLost s = { s with
    highway := s.highway.losing, events := (post .lineState none none none 0 s).events
    slots := (entryToLost s).slots, directory := (entryToLost s).directory, engine := (entryToLost s).engine
    contexts := (entryToLost s).contexts } := by
  rw [entryToLost_eq due]
  have state := forEach_abandon_state slotIds (lineLost s)
  have lost := lineLost_state s
  generalize forEach slotIds abandon (lineLost s) = u at *
  generalize lineLost s = l at *
  rw [state, lost]
  rfl

theorem slot_entryToLost (due : s.highway.lossDue = true) (i : SlotId) : (entryToLost s).slot i =
    if (s.slot i).signingOn then
      { s.slot i with assembler := .hunt none, admission := .locked, responseTimer := none, challenge := none }
    else { s.slot i with assembler := .hunt none } := by
  rw [entryToLost_eq due, slot_slippedAll, slot_forEach_abandon, slot_lineLost]
  rfl

theorem record_entryToLost (due : s.highway.lossDue = true) (r : RecordId) : (entryToLost s).record r = s.record r ∨
    (entryToLost s).record r = (s.record r).map fun x => { x with pendingSlot := none } := by
  rw [entryToLost_eq due, record_slippedAll]
  have kept : (lineLost s).record r = s.record r := by
    rw [lineLost_state]
    rfl
  have pending := forEach_pending record_abandon slotIds (lineLost s) r
  rw [kept] at pending
  exact pending

theorem context_entryToLost (due : s.highway.lossDue = true) (c : ContextId) :
    (entryToLost s).context c = (s.context c).map Context.slipped := by
  have abandoned : (forEach slotIds abandon (lineLost s)).context c = (lineLost s).context c :=
    forEach_frame (view := fun t => t.context c) (fun i t => context_abandon i c t) slotIds (lineLost s)
  have kept : (lineLost s).context c = s.context c := by
    rw [lineLost_state]
    rfl
  rw [entryToLost_eq due, context_slippedAll, abandoned, kept]

/-- The requests of the slots whose sign-ons are abandoned (R10, R74). -/
def abandons (s : State) (j : Job) : Bool := slotIds.any fun i => (s.slot i).signingOn && j.isVerifyOf i

theorem engine_entryToLost (due : s.highway.lossDue = true) :
    (entryToLost s).engine = s.engine.withdraw (abandons s) := by
  have lost : (lineLost s).engine = s.engine := by
    rw [lineLost_state]
  have selects : (fun j : Job => slotIds.any fun i => ((lineLost s).slot i).signingOn && j.isVerifyOf i) = abandons s := by
    funext j
    unfold abandons
    simp only [slot_lineLost]
    rfl
  rw [entryToLost_eq due, slippedAll_engine, forEach_abandon_engine (xs := slotIds) (List.nodup_finRange 127), lost,
    selects]

theorem abandons_iff (s : State) (j : Job) :
    abandons s j = true ↔ ∃ i, (s.slot i).signingOn = true ∧ j.isVerifyOf i = true := by
  unfold abandons
  rw [List.any_eq_true]
  simp only [Bool.and_eq_true]
  exact ⟨fun ⟨i, _, both⟩ => ⟨i, both⟩, fun ⟨i, both⟩ => ⟨i, List.mem_finRange i, both⟩⟩

theorem abandons_eq_false_iff (s : State) (j : Job) :
    abandons s j = false ↔ ∀ i, (s.slot i).signingOn = true → j.isVerifyOf i = false := by
  rw [← Bool.not_eq_true, abandons_iff]
  simp

/-- No record stays pending, where the directory tells of every sign-on (R61). -/
theorem record_entryToLost_of_sound (due : s.highway.lossDue = true) (sound : AdmissionSound s) (r : RecordId) :
    (entryToLost s).record r = (s.record r).map fun x => { x with pendingSlot := none } := by
  have sound' : AdmissionSound (entryToLost s) :=
    admissionSound_iff.mpr (admission_law.keeps_steps entryToLost_steps (admissionSound_iff.mp sound))
  obtain same | cleared := record_entryToLost due r
  · rw [same]
    cases held : s.record r with
    | none => rfl
    | some x =>
      have idle : x.pendingSlot = none := by
        cases pending : x.pendingSlot with
        | none => rfl
        | some i =>
          have signing := sound'.pending r x i (same.trans held) pending
          rw [slot_entryToLost due] at signing
          split at signing
          · exact absurd signing nofun
          next out => exact absurd signing out
      rw [Option.map_some, ← idle]
  · exact cleared

end

/-- Settles O22: the fields of the two entries, with `engine_entryToLost` for the requests withdrawn. -/
theorem entriesToLockedAndLost : Obligations.EntriesToLockedAndLost := by
  intro s running
  refine ⟨fun due => ⟨entryToLocked s, ?_, entryToLocked_state due, context_entryToLocked due⟩, fun due =>
    ⟨entryToLost s, ?_, entryToLost_state due, slot_entryToLost due, record_entryToLost due,
      record_entryToLost_of_sound due, context_entryToLost due, ?_⟩⟩
  · rw [exec_entryToLocked, whileRunning_running running]
  · rw [exec_entryToLost, whileRunning_running running]
  rw [engine_entryToLost due]
  have listed (q : Request) : q ∈ (s.engine.withdraw (abandons s)).requests ↔
      q ∈ s.engine.requests ∧ ∀ i, (s.slot i).signingOn = true → q.job.isVerifyOf i = false := by
    rw [← abandons_eq_false_iff]
    change q ∈ s.engine.requests.filter (fun q => !abandons s q.job) ↔ _
    rw [List.mem_filter, Bool.not_eq_true']
  refine ⟨rfl, listed, List.filter_sublist, fun ⟨q, member, flown, abandoned⟩ => ?_, fun none => ?_⟩
  · have aborts : (s.engine.requests.any fun q => q.inFlight && abandons s q.job) = true := by
      rw [List.any_eq_true]
      exact ⟨q, member, by rw [flown, (abandons_iff s q.job).mpr abandoned]; rfl⟩
    exact ⟨if_pos aborts, by unfold Engine.withdraw; rw [aborts]; exact Bool.or_true _⟩
  · have aborts : (s.engine.requests.any fun q => q.inFlight && abandons s q.job) = false := by
      rw [← Bool.not_eq_true, List.any_eq_true]
      rintro ⟨q, member, both⟩
      rw [Bool.and_eq_true, abandons_iff] at both
      exact none q member both.1 both.2
    exact ⟨if_neg (by rw [aborts]; exact Bool.false_ne_true), by unfold Engine.withdraw; rw [aborts]; exact Bool.or_false _⟩

end Sys2Proof.Machine
end

section
/-! PROOFS. The contexts swept and the slots signed off in turn, and the loss hold expiry. -/

namespace Sys2Proof.Machine

open Sys2Proof.Safety

/-- What is spared leaves the rest of the state to change. -/
theorem Spares.state {s t : State} (spares : Spares s t) : t = { s with
    slots := t.slots, directory := t.directory, visitors := t.visitors, engine := t.engine, contexts := t.contexts
    events := t.events, records := t.records } :=
  State.same spares.highway rfl rfl spares.classes rfl spares.timers rfl spares.sites rfl spares.tones spares.clock rfl
    rfl spares.port spares.pending

/-! ### Contexts swept -/

section
variable {close : CloseCause} {c : ContextId} {x : Context} {s u : State}

/-- The close cause of a swept context (R11, R119). -/
def sweptCause (close : CloseCause) (x : Context) : Option CloseCause :=
  if x.phase = .closing then x.cause else some close

theorem closeContext_silenced (held : s.context c = some x) (phase : x.phase ≠ .closing)
    (silent : close.silent = true) :
    closeContext c close s = afterFree c x (some close) (withdraw (Job.isDeriveOf c) s) := by
  have quiet : (x.haltFor close).cause.any CloseCause.silent = true := silent
  unfold closeContext
  rw [held]
  dsimp only
  rw [if_neg phase, silent, Bool.not_true, Bool.and_false, if_neg Bool.false_ne_true, freeContext_haltFor,
    privacyOff_unheard (.inr (.inr quiet))]

/-- A swept context is freed; one in CLOSING may be heard of, unless a soft reset sweeps it (R11, R119). -/
theorem sweepContext_frees (silent : close.silent = true) (held : s.context c = some x) : ∃ e,
    sweepContext close c s = afterFree c x (sweptCause close x) (s.withEngine e) ∨
      close.resets = false ∧
        sweepContext close c s = privacyOff x (afterFree c x (sweptCause close x) (s.withEngine e)) := by
  unfold sweepContext sweptCause
  rw [held]
  dsimp only
  by_cases phase : x.phase = .closing
  · rw [if_pos phase, if_pos phase]
    refine ⟨s.engine, ?_⟩
    change _ = afterFree c x x.cause s ∨ _ ∧ _ = privacyOff x (afterFree c x x.cause s)
    cases resets : close.resets with
    | true =>
      rw [if_pos rfl, freeQuietly_eq held]
      exact .inl rfl
    | false =>
      rw [if_neg Bool.false_ne_true, freeContext_eq held]
      exact .inr ⟨rfl, rfl⟩
  · rw [if_neg phase, if_neg phase, closeContext_silenced held phase silent]
    exact ⟨s.engine.withdraw (Job.isDeriveOf c), .inl rfl⟩

theorem sweepContext_none (free : s.context c = none) : sweepContext close c s = s := by
  rw [sweepContext, free]

theorem privacyOff_records (x : Context) (s : State) : (privacyOff x s).records = s.records := by
  unfold privacyOff
  split
  · rw [requestFunction_records, enqueue_records]
  · rfl

theorem afterFree_records_congr (c : ContextId) (x : Context) (cause : Option CloseCause)
    (records : s.records = u.records) (clock : s.clock = u.clock) :
    (afterFree c x cause s).records = (afterFree c x cause u).records := by
  have record : callRecord { x with cause := cause } s = callRecord { x with cause := cause } u := by
    unfold callRecord
    rw [clock]
  have stored := congrArg State.records (storeRecord_eq (callRecord { x with cause := cause } s) records)
  rw [afterFree_parts, afterFree_parts, ← record]
  exact stored

theorem afterFree_events_congr (c : ContextId) (x : Context) (cause : Option CloseCause)
    (events : s.events = u.events) (clock : s.clock = u.clock) :
    (afterFree c x cause s).events = (afterFree c x cause u).events := by
  rw [afterFree_parts, afterFree_parts]
  exact post_events_congr _ _ _ _ _ events clock

theorem afterFree_clock (c : ContextId) (x : Context) (cause : Option CloseCause) (s : State) :
    (afterFree c x cause s).clock = s.clock := by
  rw [afterFree_parts]

/-- What a sweep makes of the call records, the events and the other contexts. -/
theorem sweepContext_parts (silent : close.silent = true) (held : s.context c = some x) :
    (sweepContext close c s).records = (afterFree c x (sweptCause close x) s).records ∧
      (close.resets = true → (sweepContext close c s).events = (afterFree c x (sweptCause close x) s).events) ∧
      ∀ d, d ≠ c → (sweepContext close c s).context d = s.context d := by
  obtain ⟨e, quiet | ⟨loud, heard⟩⟩ := sweepContext_frees silent held
  · rw [quiet]
    exact ⟨afterFree_records_congr _ _ _ rfl rfl, fun _ => afterFree_events_congr _ _ _ rfl rfl, fun d other =>
      afterFree_context_other other ..⟩
  · rw [heard]
    exact ⟨(privacyOff_records ..).trans (afterFree_records_congr _ _ _ rfl rfl),
      fun resets => absurd (resets.symm.trans loud) nofun, fun d other =>
        (privacyOff_context ..).trans (afterFree_context_other other ..)⟩

/-- One free of `freedInTurn`. -/
def freeNext (cause : Context → Option CloseCause) (s u : State) (c : ContextId) : State :=
  match s.context c with
  | none => u
  | some x => afterFree c x (cause x) u

theorem freeNext_none (cause : Context → Option CloseCause) (free : s.context c = none) : freeNext cause s u c = u := by
  rw [freeNext, free]

theorem freeNext_some (cause : Context → Option CloseCause) (held : s.context c = some x) :
    freeNext cause s u c = afterFree c x (cause x) u := by
  rw [freeNext, held]

theorem freedInTurn_eq (cause : Context → Option CloseCause) (cs : List ContextId) (s : State) :
    freedInTurn (fun _ => true) cause cs s = cs.foldl (freeNext cause s) s := by
  have step : (fun (u : State) c => match s.context c with
      | none => u
      | some x => if (fun _ : Context => true) x then afterFree c x (cause x) u else u) = freeNext cause s := by
    funext u c
    cases held : s.context c with
    | none => exact (freeNext_none cause held).symm
    | some x => exact (freeNext_some cause held).symm
  exact congrArg (fun f => cs.foldl f s) step

/-- Sweeps in turn store the call records, and under a soft reset post the events, of frees in turn (R110, R119). -/
theorem forEach_sweep_parts (silent : close.silent = true) {cs : List ContextId} (nodup : cs.Nodup) {base : State}
    (same : ∀ c ∈ cs, s.context c = base.context c) (records : s.records = u.records) (clock : s.clock = u.clock) :
    (forEach cs (sweepContext close) s).records = (cs.foldl (freeNext (sweptCause close) base) u).records ∧
      (close.resets = true → s.events = u.events →
        (forEach cs (sweepContext close) s).events = (cs.foldl (freeNext (sweptCause close) base) u).events) := by
  induction cs generalizing s u with
  | nil => exact ⟨records, fun _ events => events⟩
  | cons c rest ih =>
    obtain ⟨absent, nodup'⟩ := List.nodup_cons.mp nodup
    have here := same c List.mem_cons_self
    rw [forEach_cons, List.foldl_cons]
    cases held : base.context c with
    | none =>
      rw [sweepContext_none (here.trans held), freeNext_none _ held]
      exact ih nodup' (fun d member => same d (List.mem_cons_of_mem c member)) records clock
    | some x =>
      obtain ⟨stored, posted, others⟩ := sweepContext_parts silent (here.trans held)
      rw [freeNext_some _ held]
      have clock' : (sweepContext close c s).clock = (afterFree c x (sweptCause close x) u).clock := by
        rw [(sweepContext_spares s close c).clock, afterFree_clock, clock]
      obtain ⟨storedAll, postedAll⟩ := ih (s := sweepContext close c s)
        (u := afterFree c x (sweptCause close x) u) nodup'
        (fun d member => (others d fun is => absent (is ▸ member)).trans (same d (List.mem_cons_of_mem c member)))
        (stored.trans (afterFree_records_congr _ _ _ records clock)) clock'
      exact ⟨storedAll, fun resets events => postedAll resets
        ((posted resets).trans (afterFree_events_congr _ _ _ events clock))⟩

end

/-! ### Slots signed off -/

section
variable {cause : SignOffCause} {i : SlotId} {s : State}

/-- No context is open. -/
def Callless (s : State) : Prop := ∀ c, s.context c = none

theorem markGone_none {c : ContextId} (free : s.context c = none) : markGone c s = s := by
  have same := withContext_context s c
  rw [free] at same
  rw [markGone, onContext, free]
  exact same

theorem partCalls_callless (free : Callless s) (i : SlotId) : partCalls i s = s := by
  have marked : forEach (s.slot i).partners markGone s = s :=
    forEach_keeps (P := fun t => t = s) (fun c t same => by rw [same, markGone_none (free c)]) _ s rfl
  unfold partCalls
  rw [marked]
  refine forEach_keeps (P := fun t => t = s) (fun c t same => ?_) _ s rfl
  rw [same, closeContext, free c]

theorem signOffSlot_callless (free : Callless s) (admitted : (s.slot i).isAdmitted = true) : signOffSlot cause i s =
    post .signedOff (some i) none (s.slot i).boundIndex cause.code
      (onSlot i Slot.lockOut (releaseAdmission (s.slot i) (quietSlot i s))) := by
  rw [signOffSlot_admitted admitted, partCalls_callless free]

theorem signOffSlot_keeps_callless (i : SlotId) (t : State) (free : Callless t) : Callless (signOffSlot cause i t) :=
  fun c => signOffSlot_context_none (free c)

/-- A slot record signed off, once no call of it is open (R75). -/
def Slot.signedOut (r : Slot) : Slot := if r.isAdmitted then r.dropTones.dropUnbegun.lockOut else r

theorem slot_forEach_signOff (free : Callless s) (j : SlotId) :
    (forEach slotIds (signOffSlot cause) s).slot j = (s.slot j).signedOut := by
  refine forEach_slotIds (P := Callless) (g := fun _ r => r.signedOut) signOffSlot_keeps_callless
    (fun i t free => ?_) (fun i j t free other => ?_) free j
  · cases admitted : (t.slot i).isAdmitted with
    | true =>
      rw [signOffSlot_slot_self cause admitted, partCalls_callless free]
      exact (if_pos admitted).symm
    | false =>
      rw [signOffSlot_not_admitted admitted]
      exact (if_neg (by rw [admitted]; exact Bool.false_ne_true)).symm
  · cases admitted : (t.slot i).isAdmitted with
    | true =>
      rw [signOffSlot_callless free admitted, slot_post, slot_onSlot, if_neg other, slot_releaseAdmission,
        slot_quietSlot, if_neg other]
    | false => rw [signOffSlot_not_admitted admitted]

theorem signOffSlot_records_callless (free : Callless s) : (signOffSlot cause i s).records = s.records := by
  cases admitted : (s.slot i).isAdmitted with
  | true =>
    rw [signOffSlot_callless free admitted, post_records, releaseAdmission_eq]
    rfl
  | false => rw [signOffSlot_not_admitted admitted]

theorem records_forEach_signOff (free : Callless s) (xs : List SlotId) :
    (forEach xs (signOffSlot cause) s).records = s.records := by
  have kept := forEach_keeps (P := fun t => Callless t ∧ t.records = s.records) (f := signOffSlot cause)
    (fun i t ⟨free, records⟩ => ⟨signOffSlot_keeps_callless i t free,
      (signOffSlot_records_callless free).trans records⟩) xs s ⟨free, rfl⟩
  exact kept.2

/-- The events of sign-offs where no call is open are SIGNED-OFF with their cause (R75). -/
theorem events_forEach_signOff (free : Callless s) (xs : List SlotId) : ∃ ended,
    (forEach xs (signOffSlot cause) s).events.queue = s.events.queue ++ ended ∧
      ∀ e ∈ ended, e.kind = .signedOff ∧ e.detail = cause.code := by
  have kept := forEach_keeps (P := fun t => Callless t ∧ ∃ ended, t.events.queue = s.events.queue ++ ended ∧
      ∀ e ∈ ended, e.kind = .signedOff ∧ e.detail = cause.code) (f := signOffSlot cause)
    (fun i t ⟨free, ended, queue, kinds⟩ => ?_) xs s ⟨free, [], (List.append_nil _).symm, nofun⟩
  · exact kept.2
  refine ⟨signOffSlot_keeps_callless i t free, ?_⟩
  cases admitted : (t.slot i).isAdmitted with
  | false =>
    rw [signOffSlot_not_admitted admitted]
    exact ⟨ended, queue, kinds⟩
  | true =>
    have before : (onSlot i Slot.lockOut (releaseAdmission (t.slot i) (quietSlot i t))).events = t.events := by
      rw [releaseAdmission_eq]
      rfl
    obtain ⟨posted, queue', alone⟩ := post_queue .signedOff (some i) none (t.slot i).boundIndex cause.code
      (onSlot i Slot.lockOut (releaseAdmission (t.slot i) (quietSlot i t)))
    rw [signOffSlot_callless free admitted, queue', before, queue, List.append_assoc]
    refine ⟨ended ++ posted, rfl, fun e member => ?_⟩
    obtain old | new := List.mem_append.mp member
    · exact kinds e old
    · obtain none | one := alone
      · rw [none] at new
        exact absurd new List.not_mem_nil
      · rw [one, List.mem_singleton] at new
        rw [new]
        exact ⟨rfl, rfl⟩

theorem signOffSlot_visitors (i : SlotId) (s : State) :
    (signOffSlot cause i s).visitors = { s.visitors with count := (signOffSlot cause i s).visitors.count } := by
  cases admitted : (s.slot i).isAdmitted with
  | false => rw [signOffSlot_not_admitted admitted]
  | true =>
    have kept : (quietSlot i (partCalls i s)).visitors = s.visitors := by
      have rest := congrArg State.visitors (partCalls_closes i s).rest
      exact rest
    have released : (signOffSlot cause i s).visitors =
        (releaseAdmission (s.slot i) (quietSlot i (partCalls i s))).visitors := by
      rw [signOffSlot_admitted admitted, post_visitors]
      rfl
    rw [released, visitors_releaseAdmission, kept]

theorem visitors_forEach_signOff (xs : List SlotId) (s : State) : (forEach xs (signOffSlot cause) s).visitors =
    { s.visitors with count := (forEach xs (signOffSlot cause) s).visitors.count } :=
  forEach_keeps (P := fun t => t.visitors = { s.visitors with count := t.visitors.count })
    (fun i t same => by
      rw [signOffSlot_visitors, same])
    xs s rfl

/-! The directory. -/

/-- A record without its admitted slot. -/
def Record.released (x : Record) : Record := { x with admittedSlot := none }

theorem signOffSlot_record_released (i : SlotId) (s : State) (r : RecordId) :
    (signOffSlot cause i s).record r = s.record r ∨ (signOffSlot cause i s).record r = (s.record r).map Record.released :=
  signOffSlot_record_cases cause i s r

theorem released_released (o : Option Record) : (o.map Record.released).map Record.released = o.map Record.released :=
  Option.map_map ..

theorem record_forEach_signOff_cases (xs : List SlotId) (s : State) (r : RecordId) :
    (forEach xs (signOffSlot cause) s).record r = s.record r ∨
      (forEach xs (signOffSlot cause) s).record r = (s.record r).map Record.released := by
  refine forEach_keeps (P := fun t => t.record r = s.record r ∨ t.record r = (s.record r).map Record.released)
    (fun i t kept => ?_) xs s (.inl rfl)
  obtain same | gone := signOffSlot_record_released (cause := cause) i t r
  · rw [same]
    exact kept
  · obtain before | before := kept
    · rw [gone, before]
      exact .inr rfl
    · rw [gone, before, released_released]
      exact .inr rfl

/-- A record that no admitted slot of the list names stands. -/
theorem record_forEach_signOff_unbound {xs : List SlotId} {r : RecordId} (nodup : xs.Nodup)
    (unbound : ∀ i ∈ xs, (s.slot i).isAdmitted = true → (s.slot i).boundIndex ≠ some r) :
    (forEach xs (signOffSlot cause) s).record r = s.record r := by
  induction xs generalizing s with
  | nil => rfl
  | cons i rest ih =>
    obtain ⟨absent, nodup'⟩ := List.nodup_cons.mp nodup
    rw [forEach_cons, ih nodup']
    · cases admitted : (s.slot i).isAdmitted with
      | false => rw [signOffSlot_not_admitted admitted]
      | true => rw [signOffSlot_record cause admitted, if_neg (unbound i List.mem_cons_self admitted)]
    · intro j member
      have other : j ≠ i := fun same => absent (same ▸ member)
      rw [(signOffSlot_slot_other (s := s) cause other).rest]
      exact unbound j (List.mem_cons_of_mem i member)

/-- The record of an admitted slot of the list loses its admitted slot. -/
theorem record_forEach_signOff_bound {xs : List SlotId} {r : RecordId} (nodup : xs.Nodup) (member : i ∈ xs)
    (admitted : (s.slot i).isAdmitted = true) (bound : (s.slot i).boundIndex = some r) :
    (forEach xs (signOffSlot cause) s).record r = (s.record r).map Record.released := by
  induction xs generalizing s with
  | nil => exact absurd member List.not_mem_nil
  | cons k rest ih =>
    obtain ⟨absent, nodup'⟩ := List.nodup_cons.mp nodup
    rw [forEach_cons]
    obtain rfl | later := List.mem_cons.mp member
    · have released : (signOffSlot cause i s).record r = (s.record r).map Record.released := by
        rw [signOffSlot_record cause admitted, if_pos bound]
        rfl
      obtain same | gone := record_forEach_signOff_cases (cause := cause) rest (signOffSlot cause i s) r
      · rw [same, released]
      · rw [gone, released, released_released]
    · have other : i ≠ k := fun same => absent (same ▸ later)
      have kept := (signOffSlot_slot_other (s := s) cause other).rest
      rw [ih nodup' later (by rw [kept]; exact admitted) (by rw [kept]; exact bound)]
      obtain same | gone := signOffSlot_record_released (cause := cause) k s r
      · rw [same]
      · rw [gone, released_released]

/-- With no slot admitted, no visitor is counted (R63). -/
theorem visitors_none (sound : AdmissionSound s) (out : ∀ i, (s.slot i).isAdmitted = false) : s.visitors.count = 0 := by
  rw [sound.visitors, List.countP_eq_zero]
  intro i _
  obtain ⟨-, -, -, visitor⟩ := sound.absent i (out i)
  rw [visitor]
  exact Bool.false_ne_true

end

end Sys2Proof.Machine
end

section
/-! PROOFS. Every call and every admission ended in turn: the loss hold expiry and the soft resets. -/

namespace Sys2Proof.Machine

open Sys2Proof.Safety

/-! ### Every call and every admission ended -/

section
variable {close : CloseCause} {signOff : SignOffCause} {s u : State}

/-- Every context swept, then every admitted slot signed off (R11, R183). -/
def callsEnded (close : CloseCause) (signOff : SignOffCause) (s : State) : State :=
  forEach slotIds (signOffSlot signOff) (forEach contextIds (sweepContext close) s)

theorem swept_callless (silent : close.silent = true) : Callless (forEach contextIds (sweepContext close) s) :=
  fun c => context_swept silent c

theorem swept_closes : Closes s (forEach contextIds (sweepContext close) s) :=
  forEach_closes (fun c t => sweepContext_closes (s := t) close c) contextIds s

theorem callsEnded_spares : Spares s (callsEnded close signOff s) :=
  (Spares.forEach (fun c t => sweepContext_spares t close c) contextIds s).trans
    (.forEach (fun i t => signOffSlot_spares t signOff i) slotIds _)

theorem callsEnded_context (silent : close.silent = true) (c : ContextId) :
    (callsEnded close signOff s).context c = none :=
  forEach_keeps (P := Callless) signOffSlot_keeps_callless slotIds _ (swept_callless silent) c

theorem callsEnded_records (silent : close.silent = true) (contexts : ∀ c, s.context c = u.context c)
    (records : s.records = u.records) (clock : s.clock = u.clock) : (callsEnded close signOff s).records =
      (freedInTurn (fun _ => true) (sweptCause close) contextIds u).records := by
  have swept := (forEach_sweep_parts silent (List.nodup_finRange 64) (fun c _ => contexts c) records clock).1
  rw [freedInTurn_eq, callsEnded, records_forEach_signOff (swept_callless silent)]
  exact swept

theorem callsEnded_slot (silent : close.silent = true) (i : SlotId) : ∃ r, (s.slot i).Follows r ∧
    (callsEnded close signOff s).slot i = r.signedOut :=
  ⟨_, swept_closes.slot i, slot_forEach_signOff (swept_callless silent) i⟩

theorem callsEnded_out (i : SlotId) : ((callsEnded close signOff s).slot i).isAdmitted = false :=
  forEach_signOffSlot_isAdmitted signOff (List.mem_finRange i)

theorem Closes.tables {t : State} (closes : Closes s t) : t.directory = s.directory ∧ t.visitors = s.visitors := by
  rw [closes.rest]
  exact ⟨rfl, rfl⟩

theorem swept_record (r : RecordId) : (forEach contextIds (sweepContext close) s).record r = s.record r :=
  congrArg (fun d : Vector (Option Record) 512 => d[r]) swept_closes.tables.1

theorem Slot.Follows.bound {r t : Slot} (follows : r.Follows t) :
    t.isAdmitted = r.isAdmitted ∧ t.boundIndex = r.boundIndex := by
  rw [follows.rest]
  exact ⟨rfl, rfl⟩

theorem callsEnded_record_cases (r : RecordId) : (callsEnded close signOff s).record r = s.record r ∨
    (callsEnded close signOff s).record r = (s.record r).map Record.released := by
  have cases := record_forEach_signOff_cases (cause := signOff) slotIds (forEach contextIds (sweepContext close) s) r
  rw [swept_record] at cases
  exact cases

theorem callsEnded_record_unbound {r : RecordId}
    (unbound : ∀ i, (s.slot i).isAdmitted = true → (s.slot i).boundIndex ≠ some r) :
    (callsEnded close signOff s).record r = s.record r := by
  refine (record_forEach_signOff_unbound (List.nodup_finRange 127) fun i _ admitted => ?_).trans (swept_record r)
  obtain ⟨same, bound⟩ := (swept_closes (close := close) (s := s).slot i).bound
  rw [bound]
  exact unbound i (same ▸ admitted)

theorem callsEnded_record_bound {i : SlotId} {r : RecordId} (admitted : (s.slot i).isAdmitted = true)
    (bound : (s.slot i).boundIndex = some r) :
    (callsEnded close signOff s).record r = (s.record r).map Record.released := by
  obtain ⟨same, index⟩ := (swept_closes (close := close) (s := s).slot i).bound
  exact (record_forEach_signOff_bound (List.nodup_finRange 127) (List.mem_finRange i) (same.trans admitted)
    (index.trans bound)).trans (congrArg (Option.map Record.released) (swept_record r))

theorem visitors_signedOff (same : s.visitors = u.visitors) (xs : List SlotId) :
    (forEach xs (signOffSlot signOff) s).visitors =
      { u.visitors with count := (forEach xs (signOffSlot signOff) s).visitors.count } := by
  rw [← same]
  exact visitors_forEach_signOff xs s

theorem callsEnded_visitors : (callsEnded close signOff s).visitors =
    { s.visitors with count := (callsEnded close signOff s).visitors.count } := by
  have swept := (swept_closes (close := close) (s := s)).tables.2
  unfold callsEnded
  generalize forEach contextIds (sweepContext close) s = t at swept ⊢
  exact visitors_signedOff swept slotIds

/-- Where there is neither a call nor an admission, nothing ends. -/
theorem callsEnded_idle (free : ∀ c, s.context c = none) (out : ∀ i, (s.slot i).isAdmitted = false) :
    callsEnded close signOff s = s := by
  have swept : forEach contextIds (sweepContext close) s = s :=
    forEach_keeps (P := fun t => t = s) (fun c t same => by rw [same, sweepContext_none (free c)]) _ s rfl
  rw [callsEnded, swept]
  exact forEach_keeps (P := fun t => t = s) (fun i t same => by rw [same, signOffSlot_not_admitted (out i)]) _ s rfl

/-- A slot record signed off keeps its kind; without an admission it stays. -/
theorem signedOut_out {r : Slot} (out : r.isAdmitted = false) : r.signedOut = r :=
  if_neg (by rw [out]; exact Bool.false_ne_true)

theorem signedOut_admitted {r : Slot} (admitted : r.isAdmitted = true) :
    r.signedOut = r.dropTones.dropUnbegun.lockOut := if_pos admitted

theorem dropUnbegun_rest (r : Slot) : r.dropUnbegun =
    { r with txQueue := r.dropUnbegun.txQueue, startDue := r.dropUnbegun.startDue } := by
  unfold Slot.dropUnbegun
  split <;> rfl

/-- The fields of a slot record that no end of a call or an admission touches. -/
def Slot.line (r : Slot) : Kind × Nat × Nibble × Nibble × Nat × Nat × Assembler × Nat :=
  (r.kind, r.filterLength, r.filtered, r.candidate, r.persistence, r.idle, r.assembler, r.garbled)

theorem signedOut_line (r : Slot) : r.signedOut.line = r.line := by
  unfold Slot.signedOut
  split
  · rw [dropUnbegun_rest]
    rfl
  · rfl

theorem Slot.Follows.line {r t : Slot} (follows : r.Follows t) : t.line = r.line := by
  rw [follows.rest]
  rfl

theorem post_last {kind : EventKind} {slot : Option SlotId} {context : Option ContextId} {index : Option RecordId}
    {detail : Byte} (shown : s.events.mask.getLsbD (kind.code - 1) = true)
    (fits : (post kind slot context index detail s).events.overflow = false) :
    (post kind slot context index detail s).events.queue.getLast? =
      some ⟨kind, s.clock.reading, slot, context, index, detail⟩ := by
  obtain ⟨masked, -⟩ | ⟨-, -, joined⟩ | ⟨-, -, lost⟩ := post_cases kind slot context index detail s
  · exact absurd (shown.symm.trans masked) nofun
  · rw [joined]
    exact List.getLast?_concat ..
  · rw [lost] at fits
    exact absurd fits nofun

/-- The same in a state that spares the mask and the clock. -/
theorem Spares.post_last {kind : EventKind} {slot : Option SlotId} {context : Option ContextId}
    {index : Option RecordId} {detail : Byte} (spares : Spares s u)
    (shown : s.events.mask.getLsbD (kind.code - 1) = true)
    (fits : (post kind slot context index detail u).events.overflow = false) :
    (post kind slot context index detail u).events.queue.getLast? =
      some ⟨kind, s.clock.reading, slot, context, index, detail⟩ := by
  rw [← spares.clock]
  exact Machine.post_last (spares.mask ▸ shown) fits

end

/-! ### The loss hold expiry -/

section
variable {s : State}

theorem exec_lossHoldExpiry : ∀ s, exec .lossHoldExpiry s = whileRunning lossHoldExpiry s := by
  intros
  rfl

/-- The state with the loss hold timer stopped. -/
def holdStopped (s : State) : State := s.withHighway { s.highway with lossHold := none }

theorem lossHoldExpiry_due (lost : s.highway.timing = .lost)
    (due : expired s.highway.lossHoldLimit s.highway.lossHold = true) : lossHoldExpiry s =
      post .lineState none none none 3 (callsEnded .lineLoss .lineLoss (holdStopped s)) := by
  rw [lossHoldExpiry, if_pos ⟨lost, due⟩]
  rfl

/-- Settles O23: the contexts are swept, then the slots signed off, each in turn. -/
theorem lossHoldExpiryClearsCalls : Obligations.LossHoldExpiryClearsCalls := by
  intro s x running lost timer due limit
  have hold : expired s.highway.lossHoldLimit s.highway.lossHold = true := by
    rw [timer]
    exact expired_of_due due limit
  have acts := lossHoldExpiry_due lost hold
  have silent : CloseCause.silent .lineLoss = true := rfl
  let v := callsEnded .lineLoss .lineLoss (holdStopped s)
  have spares : Spares (holdStopped s) (lossHoldExpiry s) :=
    acts ▸ callsEnded_spares.trans (post_spares ..)
  have slots (i : SlotId) : (lossHoldExpiry s).slot i = v.slot i := by rw [acts, slot_post]
  have records (r : RecordId) : (lossHoldExpiry s).record r = v.record r := by rw [acts, record_post]
  have visitors : (lossHoldExpiry s).visitors = v.visitors := by rw [acts, post_visitors]
  have out (i : SlotId) : ((lossHoldExpiry s).slot i).isAdmitted = false := by
    rw [slots]
    exact callsEnded_out i
  refine ⟨lossHoldExpiry s, ?_, spares.state, fun c => ?_, ?_, fun i => ?_, fun i r y admitted bound held => ?_,
    fun r unbound => ?_, ?_, ?_, ?_, fun sound => ?_, spares.mask, spares.posted, fun shown fits => ?_,
    fun free idle => ?_⟩
  · rw [exec_lossHoldExpiry, whileRunning_running running]
  · rw [acts, context_post]
    exact callsEnded_context silent c
  · rw [acts, post_records]
    exact callsEnded_records silent (fun _ => rfl) rfl rfl
  · obtain ⟨r, follows, signed⟩ := callsEnded_slot (signOff := .lineLoss) (s := holdStopped s) silent i
    obtain ⟨same, -⟩ := follows.bound
    have kind : r.signedOut.kind = (s.slot i).kind :=
      congrArg Prod.fst ((signedOut_line r).trans follows.line)
    refine ⟨out i, ?_, fun was => ?_, fun was => ?_⟩
    · rw [slots, signed, kind]
    · rw [slots, signed, signedOut_out (same.trans was), follows.rest]
      rfl
    · rw [slots, signed, signedOut_admitted (same.trans was)]
      exact ⟨rfl, rfl, rfl, rfl⟩
  · rw [records, callsEnded_record_bound (s := holdStopped s) admitted bound]
    exact congrArg (Option.map Record.released) held
  · rw [records]
    exact callsEnded_record_unbound (s := holdStopped s) unbound
  · rw [visitors, callsEnded_visitors]
    rfl
  · rw [visitors, callsEnded_visitors]
    rfl
  · rw [visitors, callsEnded_visitors]
    rfl
  · have kept := admissionSound_iff.mpr
      (admission_law.keeps_steps lossHoldExpiry_steps (admissionSound_iff.mp sound))
    exact visitors_none kept out
  · have before : Spares (holdStopped s) v := callsEnded_spares
    have fits' := (congrArg (fun t : State => t.events.overflow) acts).symm.trans fits
    exact (congrArg (fun t : State => t.events.queue.getLast?) acts).trans (before.post_last shown fits')
  · rw [acts, callsEnded_idle (s := holdStopped s) free idle]
    exact post_events_congr _ _ _ _ _ rfl rfl

end

/-! ### The soft resets -/

section
variable {close : CloseCause} {signOff : SignOffCause} {s : State} {i : SlotId}

/-- A slot record once its sign-on and its hold have ended (R183). -/
def Slot.release (r : Slot) : Slot :=
  if r.abandoned.admission = .hold then { r.abandoned with admission := .locked, refusalHold := none } else r.abandoned

theorem release_admission (r : Slot) : r.release.admission ≠ .hold := by
  unfold Slot.release
  split
  · exact nofun
  next other => exact other

theorem release_line (r : Slot) : r.release.line = r.line := by
  have abandoned : r.abandoned.line = r.line := by
    unfold Slot.abandoned
    split <;> rfl
  unfold Slot.release
  split
  · exact abandoned
  · exact abandoned

theorem slot_releaseSlot_self (i : SlotId) (s : State) : (releaseSlot i s).slot i = (s.slot i).release := by
  unfold releaseSlot Slot.release
  rw [← slot_abandon_self]
  dsimp only
  split
  · rw [slot_onSlot, if_pos rfl]
  · rfl

theorem releaseSlot_state (i : SlotId) (s : State) : releaseSlot i s = { s with
    slots := (releaseSlot i s).slots, directory := (releaseSlot i s).directory
    engine := (releaseSlot i s).engine } := by
  have abandoned := abandon_state i s
  unfold releaseSlot
  generalize abandon i s = t at *
  dsimp only
  split
  · rw [abandoned]
    rfl
  · exact abandoned

theorem releaseSlot_abandon (i : SlotId) (s : State) :
    (releaseSlot i s).directory = (abandon i s).directory ∧ (releaseSlot i s).engine = (abandon i s).engine := by
  unfold releaseSlot
  dsimp only
  split
  · exact ⟨rfl, rfl⟩
  · exact ⟨rfl, rfl⟩

theorem record_releaseSlot (i : SlotId) (s : State) (r : RecordId) : (releaseSlot i s).record r = s.record r ∨
    (releaseSlot i s).record r = (s.record r).map fun x => { x with pendingSlot := none } := by
  have same : (releaseSlot i s).record r = (abandon i s).record r :=
    congrArg (fun d : Vector (Option Record) 512 => d[r]) (releaseSlot_abandon i s).1
  rw [same]
  exact record_abandon i s r

/-- An engine with the nonce source and the levels of another. -/
def Engine.Levelled (e f : Engine) : Prop :=
  f.nonce = e.nonce ∧ f.rxLevel = e.rxLevel ∧ f.txLevel = e.txLevel ∧ f.verifyLevel = e.verifyLevel

theorem engine_releaseSlot {e : Engine} (i : SlotId) (levelled : e.Levelled s.engine) :
    e.Levelled (releaseSlot i s).engine := by
  rw [(releaseSlot_abandon i s).2, abandon_engine]
  exact levelled

theorem engine_signOffSlot {e : Engine} (free : Callless s) (levelled : e.Levelled s.engine) :
    e.Levelled (signOffSlot signOff i s).engine := by
  cases admitted : (s.slot i).isAdmitted with
  | false =>
    rw [signOffSlot_not_admitted admitted]
    exact levelled
  | true =>
    have kept : (onSlot i Slot.lockOut (releaseAdmission (s.slot i) (quietSlot i s))).engine = s.engine := by
      rw [releaseAdmission_eq]
      rfl
    rw [signOffSlot_callless free admitted, post_engine, kept]
    exact levelled

theorem releaseAll_eq (close : CloseCause) (signOff : SignOffCause) (s : State) :
    releaseAll close signOff s = forEach slotIds releaseSlot (callsEnded close signOff s) := rfl

theorem releaseAll_state (close : CloseCause) (signOff : SignOffCause) (s : State) :
    releaseAll close signOff s = { callsEnded close signOff s with
      slots := (releaseAll close signOff s).slots, directory := (releaseAll close signOff s).directory
      engine := (releaseAll close signOff s).engine } := by
  rw [releaseAll_eq]
  generalize callsEnded close signOff s = u
  exact forEach_keeps (P := fun t => t = { u with slots := t.slots, directory := t.directory, engine := t.engine })
    (fun i t same => by rw [releaseSlot_state i t, same]) slotIds u rfl

theorem softReset_state (close : CloseCause) (signOff : SignOffCause) (s : State) :
    softReset close signOff s = { callsEnded close signOff s with
      slots := (softReset close signOff s).slots, directory := (softReset close signOff s).directory
      engine := (softReset close signOff s).engine } := by
  have released := releaseAll_state close signOff s
  rw [softReset_eq]
  generalize releaseAll close signOff s = r at *
  generalize callsEnded close signOff s = u at *
  rw [released]
  rfl

theorem dropOutput_engine (s : State) (e : Engine) : (dropOutput (s.withEngine e)).engine = e := rfl

theorem engine_forEach_signOff {e : Engine} (free : Callless s) (levelled : e.Levelled s.engine) (xs : List SlotId) :
    e.Levelled (forEach xs (signOffSlot signOff) s).engine := by
  have kept := forEach_keeps (P := fun t => Callless t ∧ e.Levelled t.engine) (f := signOffSlot signOff)
    (fun i t ⟨free, levelled⟩ => ⟨signOffSlot_keeps_callless i t free, engine_signOffSlot free levelled⟩) xs s
    ⟨free, levelled⟩
  exact kept.2

theorem engine_forEach_release {e : Engine} (levelled : e.Levelled s.engine) (xs : List SlotId) :
    e.Levelled (forEach xs releaseSlot s).engine :=
  forEach_keeps (P := fun t => e.Levelled t.engine) (f := releaseSlot)
    (fun i _ levelled => engine_releaseSlot i levelled) xs s levelled

theorem Closes.levelled {t : State} (closes : Closes s t) : s.engine.Levelled t.engine := by
  rw [closes.engine]
  exact ⟨rfl, rfl, rfl, rfl⟩

theorem engine_releaseAll (silent : close.silent = true) :
    s.engine.Levelled (releaseAll close signOff s).engine := by
  have levelled := (swept_closes (close := close) (s := s)).levelled
  have free := swept_callless (close := close) (s := s) silent
  unfold releaseAll
  generalize forEach contextIds (sweepContext close) s = t at levelled free ⊢
  exact engine_forEach_release (engine_forEach_signOff free levelled slotIds) slotIds

theorem levelled_stop {e f : Engine} (levelled : e.Levelled f) : e.Levelled f.stop := levelled

theorem softReset_stops (close : CloseCause) (signOff : SignOffCause) (s : State) :
    (softReset close signOff s).engine = (releaseAll close signOff s).engine.stop := by
  rw [softReset_eq, dropOutput_engine]

theorem stop_empty (e : Engine) : e.stop.requests = [] ∧ e.stop.operation = none := ⟨rfl, rfl⟩

theorem softReset_empty (close : CloseCause) (signOff : SignOffCause) (s : State) :
    (softReset close signOff s).engine.requests = [] ∧ (softReset close signOff s).engine.operation = none := by
  rw [softReset_stops]
  exact stop_empty _

theorem engine_softReset (silent : close.silent = true) :
    s.engine.Levelled (softReset close signOff s).engine := by
  rw [softReset_stops]
  exact levelled_stop (engine_releaseAll silent)

/-- A soft reset's slot records: signed off, released and silent, after what the closes leave. -/
theorem softReset_slot (silent : close.silent = true) (i : SlotId) : ∃ r, (s.slot i).Follows r ∧
    (softReset close signOff s).slot i = r.signedOut.release.dropTones.dropAllMessages := by
  obtain ⟨r, follows, ended⟩ := callsEnded_slot (signOff := signOff) (s := s) silent i
  refine ⟨r, follows, ?_⟩
  have released : (releaseAll close signOff s).slot i = ((callsEnded close signOff s).slot i).release :=
    forEach_slotIds (P := fun _ => True) (g := fun _ r => r.release) (fun _ _ _ => trivial)
      (fun i t _ => slot_releaseSlot_self i t) (fun _ _ t _ other => releaseSlot_slot_other (s := t) other) trivial i
  rw [slot_softReset, released, ended]

theorem softReset_line (silent : close.silent = true) (i : SlotId) :
    ((softReset close signOff s).slot i).line = (s.slot i).line := by
  obtain ⟨r, follows, slot⟩ := softReset_slot (signOff := signOff) (s := s) silent i
  have quiet (t : Slot) : t.dropTones.dropAllMessages.line = t.line := rfl
  rw [slot, quiet, release_line, signedOut_line, follows.line]

theorem silenced (r : Slot) : r.dropTones.dropAllMessages.admission = r.admission ∧
    r.dropTones.dropAllMessages.txQueue = [] ∧ r.dropTones.dropAllMessages.transmitter = .idle ∧
    r.dropTones.dropAllMessages.tone = none ∧ r.dropTones.dropAllMessages.pendingTone = none :=
  ⟨rfl, rfl, rfl, rfl, rfl⟩

/-- What a soft reset leaves of a slot's admission, messages and tones, and what it keeps (R183). -/
theorem softReset_silences (silent : close.silent = true) (i : SlotId) {r : Slot}
    (slot : r = (softReset close signOff s).slot i) :
    r.admission ≠ .hold ∧ r.txQueue = [] ∧ r.transmitter = .idle ∧ r.tone = none ∧ r.pendingTone = none ∧
      r.kind = (s.slot i).kind ∧ r.filterLength = (s.slot i).filterLength ∧ r.filtered = (s.slot i).filtered ∧
      r.candidate = (s.slot i).candidate ∧ r.persistence = (s.slot i).persistence ∧ r.idle = (s.slot i).idle ∧
      r.assembler = (s.slot i).assembler ∧ r.garbled = (s.slot i).garbled := by
  have line := softReset_line (signOff := signOff) (s := s) silent i
  obtain ⟨t, -, released⟩ := softReset_slot (signOff := signOff) (s := s) silent i
  rw [← slot] at line released
  simp only [Slot.line, Prod.mk.injEq] at line
  obtain ⟨held, queue, transmitter, tone, pending⟩ := silenced t.signedOut.release
  rw [← released] at held queue transmitter tone pending
  exact ⟨held ▸ release_admission t.signedOut, queue, transmitter, tone, pending, line⟩

theorem softReset_records (silent : close.silent = true) : (softReset close signOff s).records =
    (freedInTurn (fun _ => true) (sweptCause close) contextIds s).records := by
  have same : (softReset close signOff s).records = (callsEnded close signOff s).records := by rw [softReset_state]
  rw [same]
  exact callsEnded_records silent (fun _ => rfl) rfl rfl

theorem softReset_visitors : (softReset close signOff s).visitors =
    { s.visitors with count := (softReset close signOff s).visitors.count } := by
  have same : (softReset close signOff s).visitors = (callsEnded close signOff s).visitors := by rw [softReset_state]
  rw [same]
  exact callsEnded_visitors

theorem record_dropOutput (s : State) (e : Engine) (r : RecordId) :
    (dropOutput (s.withEngine e)).record r = s.record r := rfl

theorem record_softReset_cases (r : RecordId) : (softReset close signOff s).record r = s.record r ∨
    (softReset close signOff s).record r = (s.record r).map Record.released ∨
    (softReset close signOff s).record r = (s.record r).map (fun x => { x with pendingSlot := none }) ∨
    (softReset close signOff s).record r = (s.record r).map fun x => { x.released with pendingSlot := none } := by
  have same : (softReset close signOff s).record r =
      (forEach slotIds releaseSlot (callsEnded close signOff s)).record r := by
    rw [softReset_eq, record_dropOutput, releaseAll_eq]
  have ended := callsEnded_record_cases (close := close) (signOff := signOff) (s := s) r
  have released := forEach_pending record_releaseSlot slotIds (callsEnded close signOff s) r
  rw [same]
  obtain before | before := ended <;> obtain after | after := released <;> rw [after, before]
  · exact .inl rfl
  · exact .inr (.inr (.inl rfl))
  · exact .inr (.inl rfl)
  · rw [Option.map_map]
    exact .inr (.inr (.inr rfl))

/-- A record without the slots that name it. -/
def Record.apart (x : Record) : Record := { x with admittedSlot := none, pendingSlot := none }

theorem record_softReset (r : RecordId) :
    ((softReset close signOff s).record r).map Record.apart = (s.record r).map Record.apart := by
  obtain same | same | same | same := record_softReset_cases (close := close) (signOff := signOff) (s := s) r
  · rw [same]
  all_goals rw [same, Option.map_map]; rfl

theorem softReset_sound (sound : AdmissionSound s) : AdmissionSound (softReset close signOff s) :=
  admissionSound_iff.mpr (admission_law.keeps_steps (.of (softReset_moves close signOff)) (admissionSound_iff.mp sound))

/-- With every slot out, no record names one. -/
theorem record_apart_of_sound (sound : AdmissionSound s)
    (out : ∀ i, (s.slot i).isAdmitted = false ∧ (s.slot i).signingOn = false) (r : RecordId) :
    (s.record r).map Record.apart = s.record r := by
  cases held : s.record r with
  | none => rfl
  | some x =>
    have free : x.admittedSlot = none := by
      cases named : x.admittedSlot with
      | none => rfl
      | some i =>
        obtain ⟨unbound, -⟩ := sound.absent i (out i).1
        exact absurd (unbound.symm.trans ((sound.bound r i).mpr ⟨x, held, named⟩)) nofun
    have idle : x.pendingSlot = none := by
      cases pending : x.pendingSlot with
      | none => rfl
      | some i => exact absurd ((out i).2.symm.trans (sound.pending r x i held pending)) nofun
    have apart : x.apart = x := by
      cases x
      cases free
      cases idle
      rfl
    exact congrArg some apart

/-- Frees in turn post CONTEXT-CLOSED and nothing else (R110). -/
theorem freeNext_posts (cause : Context → Option CloseCause) (base : State) (cs : List ContextId) (s : State) : ∃ closed,
    (cs.foldl (freeNext cause base) s).events.queue = s.events.queue ++ closed ∧
      ∀ e ∈ closed, e.kind = .contextClosed := by
  induction cs generalizing s with
  | nil => exact ⟨[], (List.append_nil _).symm, nofun⟩
  | cons c rest ih =>
    obtain ⟨later, queue, kinds⟩ := ih (freeNext cause base s c)
    have here : ∃ closed, (freeNext cause base s c).events.queue = s.events.queue ++ closed ∧
        ∀ e ∈ closed, e.kind = .contextClosed := by
      unfold freeNext
      split
      · exact ⟨[], (List.append_nil _).symm, nofun⟩
      next x _ =>
        rw [afterFree_parts]
        obtain ⟨posted, queue, alone⟩ := post_queue .contextClosed (some x.tie) (some c) (some x.index)
          (causeByte { x with cause := cause x }) s
        refine ⟨posted, queue, fun e member => ?_⟩
        obtain none | one := alone
        · exact absurd (none ▸ member) List.not_mem_nil
        · rw [one, List.mem_singleton] at member
          rw [member]
    obtain ⟨first, queue', kinds'⟩ := here
    refine ⟨first ++ later, ?_, fun e member => ?_⟩
    · rw [List.foldl_cons, queue, queue', List.append_assoc]
    · exact (List.mem_append.mp member).elim (kinds' e) (kinds e)

/-- A soft reset posts CONTEXT-CLOSED, then SIGNED-OFF, and nothing else (R183). -/
theorem softReset_events (silent : close.silent = true) (resets : close.resets = true) : ∃ closed ended,
    (softReset close signOff s).events.queue = s.events.queue ++ closed ++ ended ∧
      (freedInTurn (fun _ => true) (sweptCause close) contextIds s).events.queue = s.events.queue ++ closed ∧
      (∀ e ∈ closed, e.kind = .contextClosed) ∧ ∀ e ∈ ended, e.kind = .signedOff ∧ e.detail = signOff.code := by
  obtain ⟨closed, queue, kinds⟩ := freeNext_posts (sweptCause close) s contextIds s
  obtain ⟨ended, queue', kinds'⟩ := events_forEach_signOff (cause := signOff) (swept_callless (s := s) silent) slotIds
  have swept := (forEach_sweep_parts (s := s) (u := s) silent (List.nodup_finRange 64) (fun c _ => rfl) rfl rfl).2
    resets rfl
  have same : (softReset close signOff s).events = (callsEnded close signOff s).events := by
    rw [softReset_state]
  refine ⟨closed, ended, ?_, ?_, kinds, kinds'⟩
  · rw [same, callsEnded, queue', ← queue]
    exact congrArg (fun e : Events => e.queue ++ ended) swept
  · rw [freedInTurn_eq]
    exact queue

theorem eraseTables_portBlind : PortBlind eraseTables := fun _ _ => rfl

theorem record_eraseTables (s : State) (r : RecordId) : (eraseTables s).record r = none := Vector.getElem_replicate ..

theorem sites_eraseTables (s : State) (i : SiteId) : (eraseTables s).sites[i] = none := Vector.getElem_replicate ..

theorem exec_reset : ∀ (body : List Byte) (s : State),
    exec (.reset body) s = whileRunning (request 0x04 0 resetPart body) s := by
  intros
  rfl

theorem exec_eraseSecrets : ∀ (body : List Byte) (s : State),
    exec (.eraseSecrets body) s = whileRunning (request 0x05 0 eraseSecrets body) s := by
  intros
  rfl

end

/-- States that differ in the directory and the site table alone. -/
structure TablesApart (u t : State) : Prop where
  highway : t.highway = u.highway
  slot : ∀ i, t.slot i = u.slot i
  classes : t.classes = u.classes
  visitors : t.visitors = u.visitors
  timers : t.timers = u.timers
  engine : t.engine = u.engine
  context : ∀ c, t.context c = u.context c
  tones : t.tones = u.tones
  clock : t.clock = u.clock
  events : t.events = u.events
  records : t.records = u.records
  port : t.port = u.port

theorem TablesApart.refl (u : State) : TablesApart u u :=
  ⟨rfl, fun _ => rfl, rfl, rfl, rfl, rfl, fun _ => rfl, rfl, rfl, rfl, rfl, rfl⟩

theorem eraseTables_apart (u : State) : TablesApart u (eraseTables u) :=
  ⟨rfl, fun _ => rfl, rfl, rfl, rfl, rfl, fun _ => rfl, rfl, rfl, rfl, rfl, rfl⟩

/-- Settles O49: the fields of a soft reset, and the tables that ERASE-SECRETS empties after it. -/
theorem softResetsClear : Obligations.SoftResetsClear := by
  intro s accepts cleared
  have clears (close : CloseCause) (signOff : SignOffCause) (silent : close.silent = true)
      (resets : close.resets = true) {t : State} (same : TablesApart (softReset close signOff s) t) :
      cleared close signOff.code t := by
    have spares : Spares s (softReset close signOff s) := softReset_spares s close signOff
    have tables := same.visitors.trans softReset_visitors
    have out (i : SlotId) := softReset_alone (s := s) close signOff i
    obtain ⟨empty, stopped⟩ := softReset_empty close signOff s
    obtain ⟨nonce, rx, tx, verify⟩ := engine_softReset (signOff := signOff) (s := s) silent
    refine ⟨fun c => (same.context c).trans (context_softReset silent signOff c),
      same.records.trans (softReset_records silent), fun i => ?_,
      by rw [same.engine, empty], by rw [same.engine, stopped], by rw [same.engine, nonce], by rw [same.engine, rx],
      by rw [same.engine, tx], by rw [same.engine, verify], same.classes.trans spares.classes, by rw [tables],
      by rw [tables], by rw [tables], fun sound => ?_, same.timers.trans spares.timers, same.tones.trans spares.tones,
      same.clock.trans spares.clock, same.highway.trans spares.highway, same.port.trans spares.port,
      by rw [same.events, spares.mask], ?_⟩
    · obtain ⟨none, idle⟩ := out i
      rw [← same.slot] at none idle
      exact ⟨none, idle, softReset_silences silent i (same.slot i)⟩
    · rw [same.visitors]
      exact visitors_none (softReset_sound sound) fun i => (out i).1
    · obtain ⟨closed, ended, queue, posted⟩ := softReset_events (signOff := signOff) (s := s) silent resets
      exact ⟨closed, ended, (congrArg Events.queue same.events).trans queue, posted⟩
  refine ⟨⟨softReset .reset .reset s, ?_, clears .reset .reset rfl rfl (.refl _), (softReset_spares s .reset .reset).sites,
    fun r free => ?_, fun r x held => ?_, fun sound r => ?_⟩,
    eraseTables (softReset .erased .erased s), ?_, ?_, fun r => ?_, fun i => ?_⟩
  · rw [exec_reset]
    exact whileRunning_request_blind accepts rfl (softReset_portBlind .reset .reset) rfl
  · have apart := record_softReset (close := .reset) (signOff := .reset) (s := s) r
    rw [free] at apart
    exact Option.map_eq_none_iff.mp apart
  · have apart := record_softReset (close := .reset) (signOff := .reset) (s := s) r
    rw [held] at apart
    exact Option.map_eq_some_iff.mp apart
  · exact (record_apart_of_sound (softReset_sound sound) (softReset_alone .reset .reset) r).symm.trans
      (record_softReset r)
  · rw [exec_eraseSecrets]
    exact whileRunning_request_blind (f := fun t => eraseTables (softReset .erased .erased t)) accepts rfl
      ((softReset_portBlind .erased .erased).comp eraseTables_portBlind) (eraseSecrets_eq [] (huntPort s))
  · exact clears .erased .erased rfl rfl (eraseTables_apart _)
  · exact record_eraseTables _ r
  · exact sites_eraseTables _ i

end Sys2Proof.Machine
end

section
/-! PROOFS. The end of a frame: what it keeps of the port and the clock, the words it sends, and the upstream stream. -/

namespace Sys2Proof.Machine

open Sys2Proof.Safety

/-! ### What a frame's events keep -/

section
variable {s t u : State}

/-- The Maintenance Port and the clock's reading stand. -/
def Framed (s t : State) : Prop := t.port = s.port ∧ t.clock.reading = s.clock.reading

theorem Framed.refl (s : State) : Framed s s := ⟨rfl, rfl⟩

theorem Framed.trans (a : Framed s t) (b : Framed t u) : Framed s u := ⟨b.1.trans a.1, b.2.trans a.2⟩

theorem framed_of_moves (m : Moves .clear s t) : Framed s t := by
  obtain ⟨-, port, -, -, reading⟩ := moves_frame m
  exact ⟨port, reading⟩

theorem Framed.moves (a : Framed s t) (m : Moves .clear t u) : Framed s u := a.trans (framed_of_moves m)

theorem slip_framed (k : Slip) : Framed s (slip k s) := by
  have counted : Framed s (s.withHighway { s.highway with slipCount := raise Config.count16Max s.highway.slipCount }) :=
    ⟨rfl, rfl⟩
  exact counted.moves ((post_moves ..).trans slipped_moves)

theorem slippedBy_framed (o : Option Slip) : Framed s (slippedBy o s) := by
  cases o with
  | none => exact .refl s
  | some k => exact slip_framed k

theorem observeLine_framed (arrivals : List SlotWords) (judgedFirst : List ContextId) :
    Framed s (observeLine arrivals judgedFirst s) := by
  cases fresh : s.highway.observed with
  | true =>
    rw [observeLine, fresh, if_pos rfl]
    exact .refl s
  | false =>
    have observed : Framed s (s.withHighway (s.highway.observe arrivals).2) := ⟨rfl, rfl⟩
    rw [observeLine_eq fresh]
    exact ((observed.moves ((postUnstable_moves _).trans (superviseSlots_moves.trans ((takeWords_moves _).trans
      (forEach_moves (fun c _ => judgeMarkers_moves c) _ _))))).trans (slippedBy_framed _)).moves
      ((takeWords_moves _).trans takeNibbles_moves)

theorem entryToLocked_framed : Framed s (entryToLocked s) := by
  by_cases due : s.highway.lockDue = true
  · rw [entryToLocked_state due]
    exact ⟨rfl, rfl⟩
  · rw [entryToLocked, if_neg due]
    exact .refl s

theorem entryToLost_framed : Framed s (entryToLost s) := by
  by_cases due : s.highway.lossDue = true
  · rw [entryToLost_state due]
    exact ⟨rfl, rfl⟩
  · rw [entryToLost, if_neg due]
    exact .refl s

theorem lossHoldExpiry_framed : Framed s (lossHoldExpiry s) := by
  by_cases due : s.highway.timing = .lost ∧ expired s.highway.lossHoldLimit s.highway.lossHold = true
  · have stopped : Framed s (holdStopped s) := ⟨rfl, rfl⟩
    have ended : Spares (holdStopped s) (callsEnded .lineLoss .lineLoss (holdStopped s)) := callsEnded_spares
    rw [lossHoldExpiry_due due.1 due.2]
    exact (stopped.trans ⟨ended.port, by rw [ended.clock]⟩).moves (post_moves ..)
  · rw [lossHoldExpiry, if_neg due]
    exact .refl s

theorem closeEvents_framed : Framed s (closeEvents s) := by
  have line : Framed s (s |> observeLine [] [] |> entryToLocked |> entryToLost) :=
    ((observeLine_framed [] []).trans entryToLocked_framed).trans entryToLost_framed
  exact line.moves ((forEach_moves (fun i _ => filteredCodeChange_moves i) _ _).trans (minuteBoundary_moves.trans
    ((verifyDelivery_moves.trans (txKeyDelivery_moves.trans rxKeyDelivery_moves)).trans (engineSelect_moves.trans
    ((forEach_moves (fun i _ => (responseTimeout_moves i).trans (refusalHoldEnd_moves i)) _ _).trans
    ((forEach_moves (fun c _ => (markerFrame_moves c).trans ((huntMarkerFound_moves c).trans (blockRestore_moves c)))
      _ _).trans
    ((forEach_moves (fun c _ => huntTimeout_moves c) _ _).trans
    ((forEach_moves (fun c _ => (blockBoundary_moves c).trans
      ((rekeyIntervalExpiry_moves c).trans (contextFree_moves c))) _ _).trans
    ((forEach_moves (fun c _ => (clearGuardExpiry_moves c .extension).trans (clearGuardExpiry_moves c .tie)) _ _).trans
    (forEach_moves (fun i _ => expiringIdleSignOff_moves i) _ _))))))))))

/-- The state of a frame's end before its upstream word is formed. -/
def frameEvents (s : State) : State := forEach slotIds slotOutput (lossHoldExpiry (closeEvents s))

theorem frameEvents_framed (s : State) : Framed s (frameEvents s) :=
  (closeEvents_framed.trans lossHoldExpiry_framed).moves (forEach_moves (fun i _ => slotOutput_moves i) slotIds _)

theorem closeFrame_events (s : State) :
    closeFrame s = sendWords (formIdleWord (responseEnd (responseStart (frameEvents s)))) := by
  rw [closeFrame_eq, closeOutput, frameEvents]

theorem sendWords_clock (s : State) : (sendWords s).clock = s.clock := rfl
theorem sendWords_port (s : State) : (sendWords s).port = s.port := rfl
theorem sendWords_events (s : State) : (sendWords s).events = s.events := rfl
theorem sendWords_records (s : State) : (sendWords s).records = s.records := rfl

theorem responseStart_rest (s : State) : responseStart s = s.withPort (responseStart s).port := by
  unfold responseStart
  split <;> rfl

theorem responseEnd_rest (s : State) : responseEnd s = s.withPort (responseEnd s).port := by
  unfold responseEnd
  split <;> rfl

theorem formIdleWord_rest (s : State) : formIdleWord s = s.withPort (formIdleWord s).port := by
  unfold formIdleWord
  split <;> rfl

/-- The end of a frame leaves the clock's reading. -/
theorem closeFrame_reading (s : State) : (closeFrame s).clock.reading = s.clock.reading := by
  rw [closeFrame_events]
  have kept := (frameEvents_framed s).2
  generalize frameEvents s = u at kept ⊢
  rw [sendWords_clock, formIdleWord_rest, withPort_clock, responseEnd_rest, withPort_clock, responseStart_rest, withPort_clock, kept]

end

/-! ### The stop of the pulse -/

section
variable {s : State}

theorem exec_framePulseStop (running : s.clock.timebase = .running) :
    exec .framePulseStop s = .next (stopPulse (closeFrame s)) := by
  change Host.Outcome.next (framePulseStop s) = _
  rw [framePulseStop, if_pos running]
  rfl

/-- The words already sent do not show in the words to send. -/
theorem sendWords_sent (s : State) (exchange line : SlotWords) :
    (sendWords (stopPulse (s.withHighway { s.highway with exchangeOut := exchange, lineOut := line }))).highway =
      { s.highway with
        exchangeOut := frameWords s.port.word (exchangeWord s), lineOut := frameWords idleWord (lineWord s) } := by
  have toExchange : exchangeWord (stopPulse (s.withHighway { s.highway with exchangeOut := exchange, lineOut := line })) =
      exchangeWord s := rfl
  have toLine : lineWord (stopPulse (s.withHighway { s.highway with exchangeOut := exchange, lineOut := line })) =
      lineWord s := rfl
  rw [sendWords, toExchange, toLine]
  rfl

theorem stopPulse_highway (s : State) (h : Highway) : (stopPulse (s.withHighway h)).highway = h := rfl

theorem stopPulse_port (s : State) : (stopPulse s).port = s.port := rfl
theorem stopPulse_events (s : State) : (stopPulse s).events = s.events := rfl
theorem stopPulse_records (s : State) : (stopPulse s).records = s.records := rfl

theorem sendWords_again (s : State) :
    (stopPulse (sendWords s)).highway = (sendWords (stopPulse (sendWords s))).highway := by
  have formed : sendWords s = s.withHighway { s.highway with
      exchangeOut := frameWords s.port.word (exchangeWord s), lineOut := frameWords idleWord (lineWord s) } := rfl
  rw [formed, sendWords_sent, stopPulse_highway]

theorem maintenanceIdle_eq (s : State) :
    maintenanceIdle s = if s.events.queue = [] ∧ s.records.queue = [] then 0 else 1 := by
  unfold maintenanceIdle attention
  cases s.events.queue <;> cases s.records.queue <;> rfl

theorem formIdleWord_port (idle : s.port.transmitter = .idle) : (formIdleWord s).port = { s.port with
    idleWordDue := false
    word := if s.port.idleWordDue = false then s.port.word
      else if (formIdleWord s).events.queue = [] ∧ (formIdleWord s).records.queue = [] then 0 else 1 } := by
  cases due : s.port.idleWordDue with
  | false =>
    have none : formIdleWord s = s := if_neg fun both => absurd (due.symm.trans both.1) Bool.false_ne_true
    rw [none, if_pos rfl, ← due]
  | true =>
    have formed : formIdleWord s = s.withPort { s.port with word := maintenanceIdle s, idleWordDue := false } :=
      if_pos ⟨due, idle⟩
    rw [formed, if_neg (Bool.false_ne_true ∘ Eq.symm), maintenanceIdle_eq]
    rfl

theorem responseStart_quiet (quiet : s.port.startDue = false) : responseStart s = s := by
  unfold responseStart
  split
  next due _ _ => exact absurd (quiet.symm.trans due) Bool.false_ne_true
  · rfl

/-- A held request's response begins with D2 4B and clears the overrun mark (R17, R179). -/
theorem responseStart_held {h : Held} {rest : List Held} (due : s.port.startDue = true)
    (idle : s.port.transmitter = .idle) (held : s.port.holding = h :: rest) :
    responseStart s = s.withPort { s.port with
      word := 0xD24B, overrun := false, startDue := false
      transmitter := .sending ((responseBytes h s).drop 2) } := by
  unfold responseStart
  split
  next g _ _ _ head =>
    obtain ⟨rfl, -⟩ := List.cons.inj (held.symm.trans head)
    rfl
  next other => exact absurd held (other h rest due idle)

theorem responseEnd_sent (sent : s.port.transmitter = .sending []) :
    responseEnd s = s.withPort { s.port with transmitter := .idle, holding := s.port.holding.tail } := by
  unfold responseEnd
  split
  · rfl
  next other => exact absurd sent other

theorem rejectMessage_eq (s : State) : rejectMessage s = s.withPort { s.port with
    assembler := .hunt none, rejected := min (s.port.rejected + 1) 65535 } := rfl

theorem responseEnd_idle (idle : s.port.transmitter = .idle) : responseEnd s = s := by
  unfold responseEnd
  split
  next sent => exact absurd (idle.symm.trans sent) nofun
  · rfl

/-- With no response begun or due, the port ends a frame with its idle word (R176, R177). -/
theorem closeFrame_port (idle : s.port.transmitter = .idle) (quiet : s.port.startDue = false) :
    (closeFrame s).port = { s.port with
      idleWordDue := false
      word := if s.port.idleWordDue = false then s.port.word
        else if (closeFrame s).events.queue = [] ∧ (closeFrame s).records.queue = [] then 0 else 1 } := by
  have port := (frameEvents_framed s).1
  rw [closeFrame_events]
  generalize frameEvents s = u at port ⊢
  rw [← port] at idle quiet ⊢
  rw [responseStart_quiet quiet, responseEnd_idle idle, sendWords_port, sendWords_events, sendWords_records]
  exact formIdleWord_port idle

end

/-! ### The words of a frame -/

section
variable {s : State} {i : SlotId}

theorem wordOf_frameWords (zero : Word) (word : SlotId → Word) (i : SlotId) :
    (frameWords zero word).wordOf i = word i := by
  unfold frameWords SlotWords.wordOf
  exact ofTable_get ..

theorem frameWords_zero (zero : Word) (word : SlotId → Word) : (frameWords zero word)[0] = zero := by
  unfold frameWords
  exact ofTable_get ..

theorem exchangeOut_sendWords (s : State) (i : SlotId) : (sendWords s).highway.exchangeOut.wordOf i = exchangeWord s i :=
  wordOf_frameWords ..

theorem lineOut_sendWords (s : State) (i : SlotId) : (sendWords s).highway.lineOut.wordOf i = lineWord s i :=
  wordOf_frameWords ..

theorem boundContext_free {c : ContextId} (free : s.context c = none) : boundContext c i s = none := by
  rw [boundContext, free]
  rfl

theorem boundContext_other {c : ContextId} {x : Context} (held : s.context c = some x) (other : x.tie ≠ i ∨ x.elapsed = 0) :
    boundContext c i s = none := by
  rw [boundContext, held, Option.filter_some]
  refine if_neg fun both => ?_
  rw [Bool.and_eq_true, beq_iff_eq, bne_iff_ne] at both
  exact other.elim (fun tie => tie both.1) both.2

theorem boundContext_kept {c : ContextId} {x : Context} (held : s.context c = some x) (tie : x.tie = i)
    (old : x.elapsed ≠ 0) : boundContext c i s = some x := by
  rw [boundContext, held, Option.filter_some]
  refine if_pos ?_
  rw [Bool.and_eq_true, beq_iff_eq, bne_iff_ne]
  exact ⟨tie, old⟩

theorem output_silent {d : Descrambler}
    (silent : d.synchronised = false ∨ d.restored = none ∨ d.offset = none) : d.output = 0 := by
  unfold Descrambler.output
  obtain out | none | none := silent
  · split
    · exact if_neg (by rw [out]; exact Bool.false_ne_true)
    · rfl
  · rw [none]
  · rw [none]
    split
    next lost => exact absurd lost nofun
    · rfl

theorem output_restored {d : Descrambler} {codes : List Sample} {o : Nat} (synchronised : d.synchronised = true)
    (restored : d.restored = some codes) (offset : d.offset = some o) : d.output = codes.getD o 0 := by
  unfold Descrambler.output
  rw [restored, offset]
  exact if_pos synchronised

theorem words_unused (gate : (s.slot i).gate = .unused) : exchangeWord s i = 0 ∧ lineWord s i = 0 := by
  unfold exchangeWord lineWord
  dsimp only
  rw [gate]
  exact ⟨rfl, rfl⟩

theorem words_closed (gate : (s.slot i).gate = .closed) : exchangeWord s i = 0 ∧ lineWord s i =
    slotWord ((s.slot i).toneOut.getD 0) (lineStateOf (s.highway.received.wordOf i)) (s.slot i).auxOut := by
  unfold exchangeWord lineWord
  dsimp only
  rw [gate]
  exact ⟨rfl, rfl⟩

theorem words_passing (gate : (s.slot i).gate = .passing) :
    exchangeWord s i = slotWord (sampleOf (s.highway.lineWords.wordOf i)) (s.slot i).filtered 0 ∧
      lineWord s i = slotWord ((s.slot i).toneOut.getD (sampleOf (s.highway.received.wordOf i)))
        (lineStateOf (s.highway.received.wordOf i)) (s.slot i).auxOut := by
  unfold exchangeWord lineWord
  dsimp only
  rw [gate]
  exact ⟨rfl, rfl⟩

theorem words_through (gate : (s.slot i).gate = .through) : lineWord s i = s.highway.received.wordOf i ∧
    exchangeWord s i = slotWord (sampleOf (s.highway.lineWords.wordOf i)) (s.slot i).filtered
      (auxOf (s.highway.lineWords.wordOf i)) := by
  unfold exchangeWord lineWord
  dsimp only
  rw [gate]
  exact ⟨rfl, rfl⟩

/-- The words of a bound tie whose context is `o` (R26, R27). -/
theorem words_bound {c : ContextId} {o : Option Context} (gate : (s.slot i).gate = .bound c)
    (bound : boundContext c i s = o) :
    exchangeWord s i = slotWord ((o.map fun x => x.descrambler.output).getD 0) (s.slot i).filtered 0 ∧
      lineWord s i = slotWord ((o.map fun x => x.scrambler.emission.sent x.offset).getD (0, 0)).1
        (lineStateOf (s.highway.received.wordOf i))
        ((o.map fun x => x.scrambler.emission.sent x.offset).getD (0, 0)).2 := by
  unfold exchangeWord lineWord
  dsimp only
  rw [gate]
  dsimp only
  rw [bound]
  exact ⟨rfl, rfl⟩

end

/-- Settles O24: the gating decides between the cases, and a bound slot's context between what it sends. -/
theorem slotWordsAreGated : Obligations.SlotWordsAreGated := by
  refine ⟨fun s running => ⟨_, exec_framePulseStop running, ?_⟩, fun s => ⟨frameWords_zero .., frameWords_zero ..,
    fun i => ?_⟩⟩
  · rw [closeFrame_events]
    exact sendWords_again _
  intro line exchange toExchange toLine
  have out : toExchange = exchangeWord s i := exchangeOut_sendWords s i
  have back : toLine = lineWord s i := lineOut_sendWords s i
  rw [out, back]
  refine ⟨words_unused, words_closed, words_passing, words_through, fun c gate free => ?_,
    fun c x gate held other => ?_, fun c x gate held tie old => ?_⟩
  · have words := words_bound gate (boundContext_free free)
    exact words
  · have words := words_bound gate (boundContext_other held other)
    exact words
  · obtain ⟨toSwitch, toTie⟩ := words_bound gate (boundContext_kept held tie old)
    rw [toSwitch, toTie]
    refine ⟨fun silent => ?_, fun codes o synchronised restored offset => ?_, fun idle => ?_, fun m codes block => ?_⟩
    · rw [Option.map_some, Option.getD_some, output_silent silent]
    · rw [Option.map_some, Option.getD_some, output_restored synchronised restored offset]
    · rw [Option.map_some, Option.getD_some, idle]
      rfl
    · rw [Option.map_some, Option.getD_some, block]
      rfl

/-! ### The upstream stream -/

section
variable {s : State}

theorem exec_rejectedMessage : ∀ s, exec .rejectedMessage s = whileRunning rejectMessage s := by
  intros
  rfl

theorem exec_unknownRequest : ∀ (code : Byte) (body : List Byte) (s : State),
    exec (.unknownRequest code body) s = whileRunning (unknownRequest code) s := by
  intros
  rfl

theorem exec_responseStart : ∀ s, exec .responseStart s = whileRunning responseStart s := by
  intros
  rfl

theorem exec_responseEnd : ∀ s, exec .responseEnd s = whileRunning responseEnd s := by
  intros
  rfl

theorem offer_full {code : Byte} {act : State → Answer} (full : 2 ≤ s.port.holding.length) :
    offer code act s = s.withPort { s.port with assembler := .hunt none, overrun := true } := by
  obtain ⟨-, lost⟩ | ⟨room, -⟩ := offer_cases code act s
  · exact lost
  · exact absurd full (Nat.not_le.mpr room)

theorem offer_refused {code : Byte} {act : State → Answer} {status : Status} (room : s.port.holding.length < 2)
    (refused : act (huntPort s) = refusedWith status (huntPort s)) : offer code act s = answered code status [] s := by
  obtain ⟨full, -⟩ | ⟨-, acted⟩ := offer_cases code act s
  · exact absurd room (Nat.not_lt.mpr full)
  · rw [acted, refused]
    rfl

theorem sum16_from (bs : List Byte) (w : Word) : (bs.foldl (fun t b => t + b.setWidth 16) w).toNat =
    (w.toNat + (bs.map BitVec.toNat).sum) % 65536 := by
  induction bs generalizing w with
  | nil => simp [Nat.mod_eq_of_lt w.isLt]
  | cons b rest ih =>
    have small : b.toNat < 65536 := lt_trans b.isLt (by decide)
    rw [List.foldl_cons, ih, List.map_cons, List.sum_cons, BitVec.toNat_add, BitVec.toNat_setWidth,
      Nat.mod_eq_of_lt small]
    omega

theorem sum16_toNat (bs : List Byte) : (sum16 bs).toNat = (bs.map BitVec.toNat).sum % 65536 := by
  rw [sum16, sum16_from]
  simp

theorem responseBytes_eq (h : Held) (s : State) :
    let counted := bytes16 (h.body.length + 3) ++ [h.code + 0x80, h.status, responseFlags s] ++ h.body
    responseBytes h s = [0xD2, 0x4B] ++ counted ++ bytes16 ((counted.map BitVec.toNat).sum % 65536) := by
  intro counted
  rw [← sum16_toNat]
  rfl

theorem flags_bits (a b c d : Bool) :
    let f : Byte := byte (flagNat a + 2 * flagNat b + 4 * flagNat c + 8 * flagNat d)
    f.getLsbD 0 = a ∧ f.getLsbD 1 = b ∧ f.getLsbD 2 = c ∧ f.getLsbD 3 = d ∧ f.toNat < 16 := by
  revert a b c d
  decide

theorem isEmpty_not_iff {α : Type} (l : List α) : (!l.isEmpty) = true ↔ l ≠ [] := by
  cases l <;> simp

end

/-- Settles O47: each command on the port by its own case, with `closeFrame_port` for the idle word. -/
theorem portMovesMessages : Obligations.PortMovesMessages := by
  intro s running
  refine ⟨?_, fun code body room => ?_, fun code body full => ?_, fun code size act body =>
    ⟨fun room wrong => offer_refused room (if_neg wrong), fun full => offer_full full⟩, fun h rest due idle held => ?_,
    fun h => ?_, fun timebase idle quiet => ?_, fun sent => ?_⟩
  · rw [exec_rejectedMessage, whileRunning_running running, rejectMessage_eq]
  · rw [exec_unknownRequest, whileRunning_running running]
    exact congrArg _ (offer_refused room rfl)
  · rw [exec_unknownRequest, whileRunning_running running]
    exact congrArg _ (offer_full full)
  · rw [exec_responseStart, whileRunning_running running]
    exact congrArg _ (responseStart_held due idle held)
  · obtain ⟨events, records, overrun, line, small⟩ := flags_bits (!s.events.queue.isEmpty) (!s.records.queue.isEmpty)
      s.port.overrun (decide (s.highway.timing ≠ .locked))
    refine ⟨responseFlags s, ?_, ?_, ?_, ?_, ?_, small⟩
    · exact responseBytes_eq h s
    · rw [responseFlags, events, isEmpty_not_iff]
    · rw [responseFlags, records, isEmpty_not_iff]
    · rw [responseFlags, overrun]
    · rw [responseFlags, line, decide_eq_true_iff]
  · refine ⟨stopPulse (closeFrame s), exec_framePulseStop timebase, ?_⟩
    rw [stopPulse_port, stopPulse_events, stopPulse_records]
    exact closeFrame_port idle quiet
  · rw [exec_responseEnd, whileRunning_running running]
    exact congrArg _ (responseEnd_sent sent)

end Sys2Proof.Machine
end

section
/-! PROOFS. The frame pulse. -/

namespace Sys2Proof.Machine

open Sys2Proof.Safety

/-! ### What a slot gives -/

section
variable {r : Slot}

theorem beginTransmit_rest (r : Slot) : r.beginTransmit = { r with
    transmitter := r.beginTransmit.transmitter, startDue := r.beginTransmit.startDue
    auxOut := r.beginTransmit.auxOut } := by
  unfold Slot.beginTransmit
  split <;> rfl

theorem beginTone_rest (r : Slot) : r.beginTone = { r with tone := r.beginTone.tone, toneOut := r.beginTone.toneOut } := by
  unfold Slot.beginTone
  split
  · rfl
  · split <;> rfl

theorem beginTransmit_mute (kind : r.kind ≠ .extension) :
    r.beginTransmit = { r with auxOut := 0, startDue := false } := by
  unfold Slot.beginTransmit
  split
  next extension _ => exact absurd extension kind
  next extension _ => exact absurd extension kind
  next extension _ => exact absurd extension kind
  · rfl

theorem beginTransmit_idle (kind : r.kind = .extension) (idle : r.transmitter = .idle) :
    r.beginTransmit = { r with auxOut := 0, startDue := decide (r.txQueue ≠ []) } := by
  have waits : (!r.txQueue.isEmpty) = decide (r.txQueue ≠ []) := by cases r.txQueue <;> rfl
  unfold Slot.beginTransmit
  rw [kind, idle]
  dsimp only
  rw [waits]

theorem beginTransmit_sending {k : Nat} {m : HandsetMessage} {rest : List HandsetMessage} (kind : r.kind = .extension)
    (sending : r.transmitter = .sending k) (queue : r.txQueue = m :: rest) : r.beginTransmit = { r with
      auxOut := (handsetNibbles m).getD k 0, transmitter := .sending (k + 1), startDue := false } := by
  unfold Slot.beginTransmit
  rw [kind, sending]
  dsimp only
  rw [queue]
  rfl

theorem beginTransmit_gap (kind : r.kind = .extension) (gap : r.transmitter = .gap) :
    r.beginTransmit = { r with auxOut := 0, transmitter := .idle, startDue := false } := by
  unfold Slot.beginTransmit
  rw [kind, gap]

theorem beginTone_silent (silent : r.tone = none) : r.beginTone = { r with toneOut := none } := by
  unfold Slot.beginTone
  rw [silent]

theorem beginTone_burst {x : Tone} {k : Nat} (tone : r.tone = some x) (phase : x.phase = .burst k) :
    r.beginTone = { r with
      toneOut := some (burstCode x.descriptor k), tone := some { x with phase := .burst (k + 1) } } := by
  unfold Slot.beginTone
  rw [tone]
  dsimp only
  rw [phase]

theorem beginTone_gap {x : Tone} {k : Nat} (tone : r.tone = some x) (phase : x.phase = .gap k) :
    r.beginTone = { r with toneOut := none, tone := some { x with phase := .gap (k + 1) } } := by
  unfold Slot.beginTone
  rw [tone]
  dsimp only
  rw [phase]

/-- The transmitter and the player of a slot give for the frame (R49, R157). -/
theorem slotGives_begins (r : Slot) : SlotGives r r.beginTransmit.beginTone := by
  have transmits : r.beginTransmit.beginTone.transmitter = r.beginTransmit.transmitter ∧
      r.beginTransmit.beginTone.startDue = r.beginTransmit.startDue ∧
      r.beginTransmit.beginTone.auxOut = r.beginTransmit.auxOut := by
    rw [beginTone_rest]
    exact ⟨rfl, rfl, rfl⟩
  obtain ⟨transmitter, start, aux⟩ := transmits
  have tone : r.beginTransmit.tone = r.tone := by rw [beginTransmit_rest]
  constructor
  · intro kind
    rw [transmitter, start, aux, beginTransmit_mute kind]
    exact ⟨rfl, rfl, rfl⟩
  · intro kind idle
    rw [transmitter, start, aux, beginTransmit_idle kind idle]
    exact ⟨idle, rfl, rfl⟩
  · intro k m rest kind sending queue
    rw [transmitter, start, aux, beginTransmit_sending kind sending queue]
    exact ⟨rfl, rfl, rfl⟩
  · intro kind gap
    rw [transmitter, start, aux, beginTransmit_gap kind gap]
    exact ⟨rfl, rfl, rfl⟩
  · intro silent
    rw [beginTone_silent (tone.trans silent)]
    exact ⟨tone.trans silent, rfl⟩
  · intro x k held phase
    rw [beginTone_burst (tone.trans held) phase]
    exact ⟨rfl, rfl⟩
  · intro x k held phase
    rw [beginTone_gap (tone.trans held) phase]
    exact ⟨rfl, rfl⟩

/-! ### A slot record at a frame pulse -/

/-- A slot record with its gating fixed and its timers advanced (R25, R67, R73). -/
def Slot.gated (timers : Timers) (r : Slot) : Slot :=
  { r with
    gate := r.gating, filterFresh := false
    responseTimer := r.responseTimer.map (Timer.advance timers.responseTimeout)
    refusalHold := r.refusalHold.map (Timer.advance timers.refusalHold) }

theorem slot_beginFrame_eq (timers : Timers) (r : Slot) :
    r.beginFrame timers = (r.gated timers).beginTransmit.beginTone := rfl

theorem slot_beginFrame_rest (timers : Timers) (r : Slot) : r.beginFrame timers = { r.gated timers with
    transmitter := (r.beginFrame timers).transmitter, startDue := (r.beginFrame timers).startDue
    auxOut := (r.beginFrame timers).auxOut, tone := (r.beginFrame timers).tone
    toneOut := (r.beginFrame timers).toneOut } := by
  have player := beginTone_rest (r.gated timers).beginTransmit
  have transmitter := beginTransmit_rest (r.gated timers)
  rw [slot_beginFrame_eq]
  generalize (r.gated timers).beginTransmit.beginTone = v at player ⊢
  generalize (r.gated timers).beginTransmit = u at player transmitter
  rw [player, transmitter]

theorem slotGives_beginFrame (timers : Timers) (r : Slot) : SlotGives r (r.beginFrame timers) := by
  rw [slot_beginFrame_eq]
  have gives := slotGives_begins (r.gated timers)
  exact ⟨gives.mute, gives.idle, gives.sending, gives.gap, gives.silent, gives.burst, gives.pause⟩

theorem beginFrame_gate (timers : Timers) (r : Slot) : (r.beginFrame timers).gate = r.gating := by
  rw [slot_beginFrame_rest]
  rfl

theorem gating_unused (kind : r.kind = .unused) : r.gating = .unused := by
  rw [Slot.gating, kind]

theorem gating_extension (kind : r.kind = .extension) : r.gating =
    if r.admission = .admitted ∨ r.admission = .expiring then .passing else .closed := by
  rw [Slot.gating, kind]
  exact if_congr (isAdmitted_iff r) rfl rfl

theorem gating_tie_through (kind : r.kind = .tie) (unbound : r.boundContext = none) : r.gating = .through := by
  rw [Slot.gating, kind]
  dsimp only
  rw [unbound]

theorem gating_tie_bound {c : ContextId} (kind : r.kind = .tie) (bound : r.boundContext = some c) :
    r.gating = .bound c := by
  rw [Slot.gating, kind]
  dsimp only
  rw [bound]

theorem gating_trunk (kind : r.kind = .publicTrunk) : r.gating = .through := by
  rw [Slot.gating, kind]

end

/-! ### The engine, the contexts and the clock at a frame pulse -/

theorem engine_beginFrame (e : Engine) : e.beginFrame = { e with
    requests := e.requests.map fun q => { q with eligible := true }
    toRest := false
    phase := if e.toRest = true then .rest else if e.phase = .load ∨ e.phase = .round then .round else .idle
    operation := if e.toRest = false ∧ (e.phase = .load ∨ e.phase = .round) then e.operation.map Operation.runRound
      else e.operation } := by
  unfold Engine.beginFrame
  cases rest : e.toRest with
  | true => rfl
  | false => cases phase : e.phase <;> rfl

theorem ages_iff (sc : Scrambler) :
    sc.ages = true ↔ sc.state = .running ∨ sc.state = .rekeying ∨ sc.state = .announcing := by
  unfold Scrambler.ages Scrambler.sending
  cases sc.state <;> decide

theorem context_beginFrame (ws : SlotWords) (x : Context) :
    let o := if x.offset + 1 < 8 * x.profile.segment then x.offset + 1 else 0
    let code := sampleOf (ws.wordOf x.tie)
    x.beginFrame ws = { x with
      elapsed := min (x.elapsed + 1) 4294967295
      rekeyElapsed :=
        if x.scrambler.state = .running ∨ x.scrambler.state = .rekeying ∨ x.scrambler.state = .announcing then
          min (x.rekeyElapsed + 1) 691200000
        else x.rekeyElapsed
      offset := o, boundaryDue := decide (o = 0)
      scrambler := { x.scrambler with
        collected := if o = 0 then x.scrambler.collection else x.scrambler.collected
        collection := if o = 0 then [code] else x.scrambler.collection ++ [code]
        next := x.scrambler.next.map fun n => { n with fresh := false } }
      descrambler := { x.descrambler with
        hunt := x.descrambler.hunt.map (· + 1), markerDue := false, restoreDue := false } } := by
  intro o code
  have aged : (if x.scrambler.ages then raise Config.rekeyElapsedMax x.rekeyElapsed else x.rekeyElapsed) =
      if x.scrambler.state = .running ∨ x.scrambler.state = .rekeying ∨ x.scrambler.state = .announcing then
        min (x.rekeyElapsed + 1) 691200000
      else x.rekeyElapsed := if_congr (ages_iff _) rfl rfl
  have collected : x.scrambler.collect (o == 0) code = { x.scrambler with
      collected := if o = 0 then x.scrambler.collection else x.scrambler.collected
      collection := if o = 0 then [code] else x.scrambler.collection ++ [code] } := by
    unfold Scrambler.collect
    by_cases first : o = 0
    · rw [if_pos (beq_iff_eq.mpr first), if_pos first, if_pos first]
    · rw [if_neg fun same => first (beq_iff_eq.mp same), if_neg first, if_neg first]
  have begun : x.beginFrame ws = { x with
      elapsed := raise Config.elapsedMax x.elapsed
      rekeyElapsed := if x.scrambler.ages then raise Config.rekeyElapsedMax x.rekeyElapsed else x.rekeyElapsed
      offset := o, boundaryDue := o == 0
      scrambler := { x.scrambler.collect (o == 0) code with
        next := (x.scrambler.collect (o == 0) code).next.map fun n => { n with fresh := false } }
      descrambler := x.descrambler.beginFrame } := rfl
  rw [begun, aged, collected]
  rfl

theorem clock_beginFrame (c : Clock) : c.beginFrame.timebase = .running ∧
    c.beginFrame.reading = (if c.timebase = .awaiting then c.reading else c.reading.advance) ∧
    (c.timebase ≠ .awaiting → c.beginFrame.minuteDue = c.reading.endsMinute) := by
  unfold Clock.beginFrame
  cases c.timebase with
  | awaiting => exact ⟨rfl, rfl, fun other => absurd rfl other⟩
  | running => exact ⟨rfl, rfl, fun _ => rfl⟩
  | stopped => exact ⟨rfl, rfl, fun _ => rfl⟩

theorem highway_beginFrame (ws : SlotWords) (h : Highway) : h.beginFrame ws = { h with
    received := ws, observed := false, lockDue := false, lossDue := false, entered := false
    lossHold := h.lossHold.map fun x =>
      { elapsed := x.elapsed + 1, due := decide (h.lossHoldLimit ≤ x.elapsed + 1) } } := rfl

/-! ### The upstream stream at a frame pulse -/

section
variable {s u : State} {first last : Bool}

theorem beginUpstream_rest (first last : Bool) (s : State) :
    beginUpstream first last s = s.withPort (beginUpstream first last s).port := by
  unfold beginUpstream
  split
  · split <;> rfl
  · rfl

theorem beginUpstream_idle (idle : s.port.transmitter = .idle) : (beginUpstream false last s).port = { s.port with
    word := if s.events.queue = [] ∧ s.records.queue = [] then 0 else 1
    startDue := decide (s.port.holding ≠ []), idleWordDue := last } := by
  have waits : (!s.port.holding.isEmpty) = decide (s.port.holding ≠ []) := by cases s.port.holding <;> rfl
  unfold beginUpstream
  rw [idle]
  dsimp only
  rw [if_neg Bool.false_ne_true, maintenanceIdle_eq, waits]
  rfl

theorem beginUpstream_sending {bytes : List Byte} (sending : s.port.transmitter = .sending bytes) :
    (beginUpstream first last s).port = { s.port with
      word := responseWord bytes, transmitter := .sending (bytes.drop 2), startDue := false, idleWordDue := false } := by
  unfold beginUpstream
  rw [sending]
  rfl

/-- An idle downstream word moves a hunting request assembler alone (R178). -/
theorem takeDownstream_idle {p : Option Byte} (hunting : s.port.assembler = .hunt p) :
    takeDownstream idleWord s = s.withPort { s.port with assembler := .hunt (some 0) } := by
  have zero (t : State) (q : Option Byte) (taking : t.port.assembler = .hunt q) :
      takeByte 0 t = t.withPort { t.port with assembler := .hunt (some 0) } := by
    rw [takeByte_hunt taking, if_neg fun both => absurd both.2 (by decide)]
  have halves : takeDownstream idleWord s = takeByte 0 (takeByte 0 s) := rfl
  rw [halves, zero s p hunting]
  exact (zero _ (some 0) rfl).trans rfl

theorem exec_exchangeFrame : ∀ (p : ExchangePulse) (s : State),
    exec (.exchangeFrame p) s = .next (beginFrame p (endFrame s)) := by
  intros
  rfl

/-- The state at a frame pulse before the downstream bytes are taken. -/
def pulsed (p : ExchangePulse) (u : State) : State :=
  beginUpstream (u.clock.timebase == .awaiting) p.idleWordLast (advanced p u)

theorem pulsed_rest (p : ExchangePulse) (u : State) : pulsed p u = (advanced p u).withPort (pulsed p u).port :=
  beginUpstream_rest ..

theorem slot_advanced (p : ExchangePulse) (u : State) (i : SlotId) :
    (advanced p u).slot i = (u.slot i).beginFrame u.timers := slot_mapTable ..

theorem context_advanced (p : ExchangePulse) (u : State) (c : ContextId) :
    (advanced p u).context c = (u.context c).map (Context.beginFrame p.words) := context_mapTable ..

theorem slot_pulsed (p : ExchangePulse) (u : State) (i : SlotId) :
    (pulsed p u).slot i = (u.slot i).beginFrame u.timers := by
  rw [pulsed_rest, slot_withPort, slot_advanced]

theorem context_pulsed (p : ExchangePulse) (u : State) (c : ContextId) :
    (pulsed p u).context c = (u.context c).map (Context.beginFrame p.words) := by
  rw [pulsed_rest, context_withPort, context_advanced]

theorem pulsed_fields (p : ExchangePulse) (u : State) : (pulsed p u).clock = u.clock.beginFrame ∧
    (pulsed p u).highway = u.highway.beginFrame p.words ∧ (pulsed p u).engine = u.engine.beginFrame := by
  rw [pulsed_rest]
  exact ⟨rfl, rfl, rfl⟩

theorem pulsed_state (p : ExchangePulse) (u : State) : pulsed p u = { u with
    clock := (pulsed p u).clock, highway := (pulsed p u).highway, slots := (pulsed p u).slots
    contexts := (pulsed p u).contexts, port := (pulsed p u).port, engine := (pulsed p u).engine } := by
  have rest := pulsed_rest p u
  generalize pulsed p u = t at rest ⊢
  rw [rest]
  rfl

theorem pulsed_first (p : ExchangePulse) (idle : u.port.transmitter = .idle) (first : u.clock.timebase = .awaiting) :
    (pulsed p u).port = { u.port with word := 0, startDue := false, idleWordDue := false } := by
  have word := beginUpstream_first p.idleWordLast (advanced p u) idle
  rw [pulsed, first]
  exact congrArg State.port word

theorem pulsed_later (p : ExchangePulse) (idle : u.port.transmitter = .idle) (later : u.clock.timebase ≠ .awaiting) :
    (pulsed p u).port = { u.port with
      word := if u.events.queue = [] ∧ u.records.queue = [] then 0 else 1
      startDue := decide (u.port.holding ≠ []), idleWordDue := p.idleWordLast } := by
  have word := beginUpstream_idle (s := advanced p u) (last := p.idleWordLast) idle
  rw [pulsed, beq_eq_false_iff_ne.mpr later]
  exact word

theorem pulsed_sending (p : ExchangePulse) {bytes : List Byte} (sending : u.port.transmitter = .sending bytes) :
    (pulsed p u).port = { u.port with
      word := responseWord bytes, transmitter := .sending (bytes.drop 2), startDue := false, idleWordDue := false } := by
  have word := beginUpstream_sending (s := advanced p u) (first := u.clock.timebase == .awaiting)
    (last := p.idleWordLast) sending
  exact word

theorem endFrame_clock (s : State) :
    (endFrame s).clock.timebase = s.clock.timebase ∧ (endFrame s).clock.reading = s.clock.reading := by
  refine ⟨steps_timebase (endFrame_steps s), ?_⟩
  unfold endFrame
  split
  · exact closeFrame_reading s
  · rfl

end

/-- Settles O5: `pulsed` on the state in which the frame before has ended. -/
theorem framePulseAdvancesCounters : Obligations.FramePulseAdvancesCounters := by
  intro ws last s ended
  have closed : ended = endFrame s := rfl
  obtain ⟨timebase, reading⟩ := endFrame_clock s
  rw [← closed] at timebase reading
  have acts := exec_exchangeFrame { words := ws, idleWordLast := last } s
  rw [← closed] at acts
  clear_value ended
  obtain ⟨clock, highway, engine⟩ := pulsed_fields { words := ws, idleWordLast := last } ended
  obtain ⟨running, reads, minute⟩ := clock_beginFrame ended.clock
  rw [← clock, timebase, reading] at reads minute
  rw [← clock] at running
  refine ⟨pulsed { words := ws, idleWordLast := last } ended, acts, fun p hunting idle => ?_, pulsed_state _ _,
    engine.trans (engine_beginFrame _), running, reads, minute, highway.trans (highway_beginFrame _ _),
    fun idle first => pulsed_first _ idle (timebase.trans first),
    fun idle later => pulsed_later _ idle (timebase ▸ later), fun bytes sending => pulsed_sending _ sending,
    fun i => ?_, fun c free => ?_, fun c x held => ?_⟩
  · rw [idle]
    exact takeDownstream_idle hunting
  · intro r
    rw [slot_pulsed]
    refine ⟨?_, slotGives_beginFrame _ _, ?_, ?_, ?_, ?_, ?_⟩
    · have rest := slot_beginFrame_rest ended.timers r
      have gate := beginFrame_gate ended.timers r
      rw [gate]
      exact rest
    all_goals rw [beginFrame_gate]
    · exact gating_unused
    · exact gating_extension
    · exact gating_tie_through
    · exact fun c => gating_tie_bound
    · exact gating_trunk
  · rw [context_pulsed, free]
    rfl
  · intro o code
    rw [context_pulsed, held]
    exact congrArg some (context_beginFrame ws x)

end Sys2Proof.Machine
end

section
/-! PROOFS. The assemblers: handset messages nibble by nibble, and requests byte by byte. -/

namespace Sys2Proof.Machine

open Sys2Proof.Safety

/-! ### The assembler of a slot -/

section
variable {i : SlotId} {s : State}

/-- The state with the assembler of slot `i` at `a`. -/
def assembling (i : SlotId) (a : Assembler) (s : State) : State := onSlot i (fun r => { r with assembler := a }) s

theorem assembling_assembling (a b : Assembler) : assembling i a (assembling i b s) = assembling i a s := onSlot_onSlot ..

theorem assembler_assembling (a : Assembler) : ((assembling i a s).slot i).assembler = a := by
  rw [assembling, slot_onSlot, if_pos rfl]

theorem actOnMessage_assembling (a : Assembler) (type : Byte) (body : List Byte) :
    actOnMessage i type body (assembling i a s) = actOnMessage i type body s := by
  have hunts : huntAssembler i (assembling i a s) = huntAssembler i s := onSlot_onSlot ..
  have discards : discardGarbled i (assembling i a s) = discardGarbled i s := onSlot_onSlot ..
  unfold actOnMessage
  rw [hunts, discards]

theorem discardGarbled_hunting : discardGarbled i (huntAssembler i s) = discardGarbled i s := onSlot_onSlot ..

/-- Slot `i`'s assembler takes the two nibbles of a byte. -/
def takeNibbleByte (i : SlotId) (s : State) (b : Byte) : State :=
  takeNibble i (b.extractLsb' 0 4) (takeNibble i (b.extractLsb' 4 4) s)

theorem foldl_takeNibble (i : SlotId) (bytes : List Byte) (s : State) :
    (bytes.flatMap byteNibbles).foldl (fun t x => takeNibble i x t) s = bytes.foldl (takeNibbleByte i) s := by
  rw [List.foldl_flatMap]
  rfl

theorem takeNibble_hunt {p : Option Nibble} (hunting : (s.slot i).assembler = .hunt p) (x : Nibble) :
    takeNibble i x s =
      assembling i (if p = some 0xA ∧ x = 5 then .length none else .hunt (some x)) s := by
  unfold takeNibble
  rw [hunting]
  dsimp only
  split <;> rfl

theorem takeNibble_length_first (taking : (s.slot i).assembler = .length none) (x : Nibble) :
    takeNibble i x s = assembling i (.length (some x)) s := by
  unfold takeNibble
  rw [taking]
  rfl

theorem takeNibble_length_second {h : Nibble} (taking : (s.slot i).assembler = .length (some h)) (x : Nibble) :
    takeNibble i x s = if 1 ≤ (nibblesByte h x).toNat ∧ (nibblesByte h x).toNat ≤ 24 then
        assembling i (.body (nibblesByte h x).toNat [] none (byte (nibblesByte h x).toNat)) s
      else discardGarbled i s := by
  unfold takeNibble
  rw [taking]
  rfl

theorem takeNibble_body_first {n : Nat} {content : List Byte} {sum : Byte}
    (taking : (s.slot i).assembler = .body n content none sum) (x : Nibble) :
    takeNibble i x s = assembling i (.body n content (some x) sum) s := by
  unfold takeNibble
  rw [taking]
  rfl

theorem takeNibble_body_second {n : Nat} {content : List Byte} {h : Nibble} {sum : Byte}
    (taking : (s.slot i).assembler = .body n content (some h) sum) (x : Nibble) :
    takeNibble i x s = assembling i (if n ≤ content.length + 1 then
        .check (content ++ [nibblesByte h x]) (sum + nibblesByte h x) none
      else .body n (content ++ [nibblesByte h x]) none (sum + nibblesByte h x)) s := by
  have length : (content ++ [nibblesByte h x]).length = content.length + 1 := List.length_append
  unfold takeNibble
  rw [taking]
  dsimp only
  rw [length]
  split <;> rfl

theorem takeNibble_check_first {content : List Byte} {sum : Byte}
    (taking : (s.slot i).assembler = .check content sum none) (x : Nibble) :
    takeNibble i x s = assembling i (.check content sum (some x)) s := by
  unfold takeNibble
  rw [taking]
  rfl

theorem takeNibble_check_second {content : List Byte} {h : Nibble} {sum : Byte}
    (taking : (s.slot i).assembler = .check content sum (some h)) (x : Nibble) :
    takeNibble i x s = if sum + nibblesByte h x = 0 then actOnMessage i (content.headD 0) content.tail s
      else discardGarbled i s := by
  unfold takeNibble
  rw [taking]

/-! A message's bytes in turn. -/

theorem takeNibbleByte_start {p : Option Nibble} (hunting : (s.slot i).assembler = .hunt p) :
    takeNibbleByte i s 0xA5 = assembling i (.length none) s := by
  have first : takeNibble i ((0xA5 : Byte).extractLsb' 4 4) s = assembling i (.hunt (some 0xA)) s :=
    (takeNibble_hunt hunting 0xA).trans (by rw [if_neg fun both => absurd both.2 (by decide)])
  rw [takeNibbleByte, first, takeNibble_hunt (assembler_assembling _), assembling_assembling]
  rfl

theorem takeNibbleByte_length {b : Byte} (legal : 1 ≤ b.toNat ∧ b.toNat ≤ 24) :
    takeNibbleByte i (assembling i (.length none) s) b = assembling i (.body b.toNat [] none b) s := by
  have whole : byte b.toNat = b := BitVec.ofNat_toNat 8 b |>.trans (BitVec.setWidth_eq b)
  rw [takeNibbleByte, takeNibble_length_first (assembler_assembling _), assembling_assembling,
    takeNibble_length_second (assembler_assembling _), nibblesByte_byteNibbles, if_pos legal, assembling_assembling, whole]

theorem takeNibbleByte_body (n : Nat) (content : List Byte) (sum b : Byte) :
    takeNibbleByte i (assembling i (.body n content none sum) s) b = assembling i
      (if n ≤ content.length + 1 then .check (content ++ [b]) (sum + b) none
        else .body n (content ++ [b]) none (sum + b)) s := by
  rw [takeNibbleByte, takeNibble_body_first (assembler_assembling _), assembling_assembling,
    takeNibble_body_second (assembler_assembling _), nibblesByte_byteNibbles, assembling_assembling]

theorem takeNibbleByte_check {content : List Byte} {sum b : Byte} (zero : sum + b = 0) :
    takeNibbleByte i (assembling i (.check content sum none) s) b =
      actOnMessage i (content.headD 0) content.tail s := by
  rw [takeNibbleByte, takeNibble_check_first (assembler_assembling _), assembling_assembling,
    takeNibble_check_second (assembler_assembling _), nibblesByte_byteNibbles, if_pos zero, actOnMessage_assembling]

theorem foldl_takeNibbleByte_body (n : Nat) {rest : List Byte} (filled : rest ≠ []) (content : List Byte) (sum : Byte)
    (length : content.length + rest.length = n) :
    rest.foldl (takeNibbleByte i) (assembling i (.body n content none sum) s) =
      assembling i (.check (content ++ rest) (rest.foldl (· + ·) sum) none) s := by
  induction rest generalizing content sum with
  | nil => exact absurd rfl filled
  | cons b rest ih =>
    rw [List.foldl_cons, takeNibbleByte_body]
    rw [List.length_cons] at length
    cases rest with
    | nil =>
      rw [if_pos (by rw [← length, List.length_nil])]
      rfl
    | cons c tail =>
      have more : ¬ n ≤ content.length + 1 := by
        rw [List.length_cons] at length
        omega
      have counted : (content ++ [b]).length + (c :: tail).length = n := by
        rw [List.length_append, List.length_singleton]
        omega
      rw [if_neg more, ih (List.cons_ne_nil c tail) (content ++ [b]) (sum + b) counted, List.append_assoc]
      rfl

/-- A message of legal length sent nibble by nibble acts (R39 to R41). -/
theorem message_assembles (m : HandsetMessage) {p : Option Nibble} (hunting : (s.slot i).assembler = .hunt p)
    (legal : m.body.length + 1 ≤ 24) :
    (handsetNibbles m).foldl (fun t x => takeNibble i x t) s = actOnMessage i m.type m.body s := by
  have length : (byte (m.body.length + 1)).toNat = m.body.length + 1 := byte_toNat (by omega)
  have inRange : 1 ≤ (byte (m.body.length + 1)).toNat ∧ (byte (m.body.length + 1)).toNat ≤ 24 := by omega
  have bodies := foldl_takeNibbleByte_body (i := i) (s := s) (byte (m.body.length + 1)).toNat
    (List.cons_ne_nil m.type m.body) [] (byte (m.body.length + 1)) (by rw [length, List.length_cons]; simp)
  have counted : sum8 (byte (m.body.length + 1) :: m.type :: m.body) =
      (m.type :: m.body).foldl (· + ·) (byte (m.body.length + 1)) := by
    have zero : 0 + byte (m.body.length + 1) = byte (m.body.length + 1) := BitVec.zero_add _
    rw [sum8, List.foldl_cons, zero]
  have walked : (byte (m.body.length + 1) :: m.type :: m.body).foldl (takeNibbleByte i) (assembling i (.length none) s) =
      assembling i (.check (m.type :: m.body) (sum8 (byte (m.body.length + 1) :: m.type :: m.body)) none) s := by
    rw [List.foldl_cons, takeNibbleByte_length inRange, bodies, counted]
    rfl
  have zero : sum8 (byte (m.body.length + 1) :: m.type :: m.body) +
      -sum8 (byte (m.body.length + 1) :: m.type :: m.body) = 0 := by
    rw [← BitVec.sub_eq_add_neg, BitVec.sub_self]
    rfl
  rw [handsetNibbles, foldl_takeNibble, handsetBytes, List.cons_append, List.foldl_cons, takeNibbleByte_start hunting,
    List.foldl_append, walked, List.foldl_cons, List.foldl_nil, takeNibbleByte_check zero]
  rfl

end

/-! ### Words read back from their bytes -/

theorem field24_bytes (n : BitVec 24) (rest : List Byte) :
    field24 ([n.extractLsb' 16 8, n.extractLsb' 8 8, n.extractLsb' 0 8] ++ rest) 0 = n.toNat := by
  have small := n.isLt
  simp only [field24, field16, List.cons_append, byteAt_cons_zero, byteAt_cons_succ, BitVec.extractLsb'_toNat,
    Nat.shiftRight_eq_div_pow]
  omega

theorem field48_bytes (head : List Byte) (length : head.length = 3) (x : BitVec 48) :
    field48 (head ++ [x.extractLsb' 40 8, x.extractLsb' 32 8, x.extractLsb' 24 8, x.extractLsb' 16 8,
      x.extractLsb' 8 8, x.extractLsb' 0 8]) 3 = x.toNat := by
  obtain ⟨a, b, c, rfl⟩ := List.length_eq_three.mp length
  have small := x.isLt
  simp only [field48, field24, field16, List.cons_append, List.nil_append, byteAt_cons_zero, byteAt_cons_succ,
    BitVec.extractLsb'_toNat, Nat.shiftRight_eq_div_pow]
  omega

theorem field32_bytes (x : BitVec 32) :
    let body := [x.extractLsb' 24 8, x.extractLsb' 16 8, x.extractLsb' 8 8, x.extractLsb' 0 8]
    field16 body 0 * 65536 + field16 body 2 = x.toNat := by
  have small := x.isLt
  simp only [field16, byteAt_cons_zero, byteAt_cons_succ, BitVec.extractLsb'_toNat, Nat.shiftRight_eq_div_pow]
  omega

theorem actOnMessage_signOn (i : SlotId) (n : ExtensionNumber) (serial : BitVec 48) (s : State) :
    actOnMessage i 0x11 ([n.extractLsb' 16 8, n.extractLsb' 8 8, n.extractLsb' 0 8] ++
      [serial.extractLsb' 40 8, serial.extractLsb' 32 8, serial.extractLsb' 24 8, serial.extractLsb' 16 8,
        serial.extractLsb' 8 8, serial.extractLsb' 0 8]) s = takeSignOn i n serial (huntAssembler i s) := by
  rw [actOnMessage, if_pos rfl, if_pos (by rfl), field24_bytes, field48_bytes _ rfl, BitVec.ofNat_toNat, BitVec.ofNat_toNat,
    BitVec.setWidth_eq, BitVec.setWidth_eq]

theorem actOnMessage_response (i : SlotId) (answer : BitVec 32) (s : State) :
    actOnMessage i 0x12 [answer.extractLsb' 24 8, answer.extractLsb' 16 8, answer.extractLsb' 8 8,
      answer.extractLsb' 0 8] s = takeResponse i answer (huntAssembler i s) := by
  rw [actOnMessage, if_neg (by decide), if_pos rfl, if_pos (by rfl), field32_bytes, BitVec.ofNat_toNat, BitVec.setWidth_eq]

theorem actOnMessage_wrong {type : Byte} {size : Nat} {body : List Byte}
    (known : (type, size) ∈ [((0x11 : Byte), 9), (0x12, 4), (0x13, 0), (0x14, 0)]) (wrong : body.length ≠ size)
    (i : SlotId) (s : State) : actOnMessage i type body s = discardGarbled i s := by
  unfold actOnMessage
  simp only [List.mem_cons, Prod.mk.injEq, List.not_mem_nil, or_false] at known
  obtain ⟨rfl, rfl⟩ | ⟨rfl, rfl⟩ | ⟨rfl, rfl⟩ | ⟨rfl, rfl⟩ := known
  · rw [if_pos rfl, if_neg wrong]
  · rw [if_neg (by decide), if_pos rfl, if_neg wrong]
  · rw [if_neg (by decide), if_neg (by decide), if_pos rfl, if_neg wrong]
  · rw [if_neg (by decide), if_neg (by decide), if_neg (by decide), if_pos rfl, if_neg wrong]

theorem takeNibble_garbled {i : SlotId} {s : State} {h x : Nibble}
    (bad : ((s.slot i).assembler = .length (some h) ∧ ((nibblesByte h x).toNat = 0 ∨ 24 < (nibblesByte h x).toNat)) ∨
      ∃ content sum, (s.slot i).assembler = .check content sum (some h) ∧ sum + nibblesByte h x ≠ 0) :
    takeNibble i x s = discardGarbled i s := by
  obtain ⟨taking, illegal⟩ | ⟨content, sum, taking, wrong⟩ := bad
  · rw [takeNibble_length_second taking, if_neg (by omega)]
  · rw [takeNibble_check_second taking, if_neg wrong]

/-- Settles O17: `message_assembles`, and the table of message types against the commands. -/
theorem handsetMessageAssembles : Obligations.HandsetMessageAssembles := by
  refine ⟨fun i m p s hunting legal => message_assembles m hunting legal, fun i s arrives => ?_⟩
  refine ⟨fun n serial => ?_, fun answer => ?_, ?_, ?_, fun type size body known wrong => ?_,
    fun type body signOn response signOff query => ?_, fun h x bad => ?_⟩
  · rw [exec_signOn, onArrival_arrives arrives, actOnMessage_signOn]
  · rw [exec_response, onArrival_arrives arrives, actOnMessage_response]
  · rw [exec_signOff, onArrival_arrives arrives]
    rfl
  · rw [exec_statusQuery, onArrival_arrives arrives]
    rfl
  · rw [exec_garbledMessage, onArrival_arrives arrives, discardGarbled_hunting, actOnMessage_wrong known wrong]
  · rw [exec_unknownHandsetMessage, onArrival_arrives arrives, actOnMessage, if_neg signOn, if_neg response,
      if_neg signOff, if_neg query]
    rfl
  · rw [exec_garbledMessage, onArrival_arrives arrives, discardGarbled_hunting, takeNibble_garbled bad]

end Sys2Proof.Machine
end

section
/-! PROOFS. The request assembler, and the table of requests. -/

namespace Sys2Proof.Machine

open Sys2Proof.Safety

section
variable {s : State}

/-! ### The table of requests -/

theorem request_wrong {code : Byte} {size : Nat} {act : List Byte → State → Answer} {body : List Byte}
    (accepts : Accepts s) (wrong : body.length ≠ size) :
    request code size act body s = answered code .badLength [] s :=
  offer_refused accepts.2 (if_neg wrong)

/-- A command that stands for a request of code `code` and `size` body bytes. -/
def Performs (e : (List Byte → Instr) × Byte × Nat) : Prop :=
  ∃ act, ∀ body s, exec (e.1 body) s = whileRunning (request e.2.1 e.2.2 act body) s ∧
    performRequest e.2.1 body s = request e.2.1 e.2.2 act body s

theorem Performs.of {instr : List Byte → Instr} {code : Byte} {size : Nat} {act : List Byte → State → Answer}
    (hand : ∀ body s, exec (instr body) s = whileRunning (request code size act body) s)
    (performed : ∀ body s, performRequest code body s = request code size act body s) : Performs (instr, code, size) :=
  ⟨act, fun body s => ⟨hand body s, performed body s⟩⟩

/-- The requests by code and body size (R179). -/
def requestTable : List ((List Byte → Instr) × Byte × Nat) :=
  [(.getStatus, 0x01, 0), (.setTime, 0x02, 5), (.setTimers, 0x03, 8), (.reset, 0x04, 0),
    (.eraseSecrets, 0x05, 0), (.setSlot, 0x10, 3), (.readSlot, 0x11, 1), (.forceSignOff, 0x12, 1),
    (.loadEntry, 0x20, 20), (.deleteEntry, 0x21, 2), (.readDirectory, 0x22, 3), (.setStanding, 0x23, 3),
    (.loadClass, 0x24, 6), (.loadVisitorRule, 0x25, 7), (.setVisitorMasks, 0x26, 2), (.setEngineLevels, 0x30, 3),
    (.loadSite, 0x40, 11), (.clearSite, 0x41, 1), (.openPrivacy, 0x42, 14), (.closePrivacy, 0x43, 1),
    (.rekey, 0x44, 1), (.readContext, 0x45, 1), (.loadTone, 0x50, 12), (.setToneFunctions, 0x51, 6),
    (.playTone, 0x52, 2), (.stopTone, 0x53, 2), (.setEventMask, 0x60, 2), (.readEvents, 0x61, 1),
    (.readRecords, 0x62, 1)]

theorem requestTable_performs : ∀ e ∈ requestTable, Performs e := by
  simp only [requestTable, List.forall_mem_cons]
  refine ⟨?_, ?_, ?_, ?_, ?_, ?_, ?_, ?_, ?_, ?_, ?_, ?_, ?_, ?_, ?_, ?_, ?_, ?_, ?_, ?_, ?_, ?_, ?_, ?_, ?_, ?_, ?_, ?_, ?_, nofun⟩
  all_goals exact .of (fun _ _ => rfl) (fun _ _ => rfl)

theorem performRequest_cases (code : Byte) (body : List Byte) :
    performRequest code body = unknownRequest code ∨ ∃ e ∈ requestTable, e.2.1 = code := by
  have named {n : Nat} (same : code.toNat = n) (listed : ∃ e ∈ requestTable, e.2.1 = BitVec.ofNat 8 n) :
      ∃ e ∈ requestTable, e.2.1 = code := by
    rw [← same, BitVec.ofNat_toNat, BitVec.setWidth_eq] at listed
    exact listed
  unfold performRequest
  split
  case h_30 => exact .inl rfl
  all_goals next same => exact .inr (named same (by simp [requestTable]))

end

/-! ### The request assembler -/

section
variable {s : State}

/-- The state with the request assembler at `a`. -/
def receiving (a : PortAssembler) (s : State) : State := s.withPort { s.port with assembler := a }

theorem receiving_receiving (a b : PortAssembler) : receiving a (receiving b s) = receiving a s := rfl

theorem offer_receiving (a : PortAssembler) (code : Byte) (act : State → Answer) :
    offer code act (receiving a s) = offer code act s := rfl

theorem performRequest_receiving (a : PortAssembler) (code : Byte) (body : List Byte) :
    performRequest code body (receiving a s) = performRequest code body s := by
  obtain unknown | ⟨e, listed, rfl⟩ := performRequest_cases code body
  · rw [unknown]
    exact offer_receiving ..
  · obtain ⟨act, performs⟩ := requestTable_performs e listed
    rw [(performs body _).2, (performs body s).2]
    exact offer_receiving ..

theorem takeByte_start {p : Option Byte} (hunting : s.port.assembler = .hunt p) :
    takeByte 0x4B (takeByte 0xD2 s) = receiving (.length none) s := by
  have first : takeByte 0xD2 s = receiving (.hunt (some 0xD2)) s :=
    (takeByte_hunt hunting 0xD2).trans (by rw [if_neg fun both => absurd both.2 (by decide)]; rfl)
  have second := takeByte_hunt (s := receiving (.hunt (some 0xD2)) s) (p := some 0xD2) rfl 0x4B
  rw [first, second]
  rfl

theorem takeByte_length_second {h b : Byte} (legal : 1 ≤ h.toNat * 256 + b.toNat ∧ h.toNat * 256 + b.toNat ≤ 1024) :
    takeByte b (takeByte h (receiving (.length none) s)) =
      receiving (.body (h.toNat * 256 + b.toNat) [] (h.setWidth 16 + b.setWidth 16)) s := by
  have first : takeByte h (receiving (.length none) s) = receiving (.length (some h)) s := takeByte_length rfl h
  rw [first]
  exact if_pos legal

theorem takeByte_body (n : Nat) (content : List Byte) (sum : Word) (b : Byte) :
    takeByte b (receiving (.body n content sum) s) = receiving (if n ≤ content.length + 1 then
      .check (content ++ [b]) (sum + b.setWidth 16) none
      else .body n (content ++ [b]) (sum + b.setWidth 16)) s := by
  have length : (content ++ [b]).length = content.length + 1 := List.length_append
  have taken : takeByte b (receiving (.body n content sum) s) = if n ≤ (content ++ [b]).length then
      receiving (.check (content ++ [b]) (sum + b.setWidth 16) none) s
      else receiving (.body n (content ++ [b]) (sum + b.setWidth 16)) s := rfl
  rw [taken, length]
  split <;> rfl

theorem takeByte_check {content : List Byte} {sum : Word} {h b : Byte} (agrees : h ++ b = sum) :
    takeByte b (takeByte h (receiving (.check content sum none) s)) =
      performRequest (content.headD 0) content.tail s := by
  have first : takeByte h (receiving (.check content sum none) s) = receiving (.check content sum (some h)) s := rfl
  have second : takeByte b (receiving (.check content sum (some h)) s) =
      performRequest (content.headD 0) content.tail (receiving (.check content sum (some h)) s) := if_pos agrees
  rw [first, second, performRequest_receiving]

theorem foldl_takeByte_body (n : Nat) {rest : List Byte} (filled : rest ≠ []) (content : List Byte) (sum : Word)
    (length : content.length + rest.length = n) :
    rest.foldl (fun t b => takeByte b t) (receiving (.body n content sum) s) =
      receiving (.check (content ++ rest) (rest.foldl (fun t b => t + b.setWidth 16) sum) none) s := by
  induction rest generalizing content sum with
  | nil => exact absurd rfl filled
  | cons b rest ih =>
    rw [List.foldl_cons, takeByte_body]
    rw [List.length_cons] at length
    cases rest with
    | nil =>
      rw [if_pos (by rw [← length, List.length_nil])]
      rfl
    | cons c tail =>
      have more : ¬ n ≤ content.length + 1 := by
        rw [List.length_cons] at length
        omega
      have counted : (content ++ [b]).length + (c :: tail).length = n := by
        rw [List.length_append, List.length_singleton]
        omega
      rw [if_neg more, ih (List.cons_ne_nil c tail) (content ++ [b]) (sum + b.setWidth 16) counted, List.append_assoc]
      rfl

theorem bytes16_word (w : Word) : ∃ h b : Byte, bytes16 w.toNat = [h, b] ∧ h ++ b = w := by
  refine ⟨w.extractLsb' 8 8, w.extractLsb' 0 8, ?_, ?_⟩
  · rw [← byte_toNat_div, ← byte_toNat_div, pow_zero, Nat.div_one]
    rfl
  · exact (BitVec.extractLsb'_append_extractLsb'_eq_extractLsb' rfl).trans BitVec.extractLsb'_eq_self

theorem bytes16_value {n : Nat} (small : n ≤ 1024) : (byte (n / 256)).toNat * 256 + (byte n).toNat = n := by
  unfold byte
  rw [BitVec.toNat_ofNat, BitVec.toNat_ofNat]
  omega

/-- A request of legal length sent byte by byte is performed (R178). -/
theorem request_assembles (code : Byte) (body : List Byte) {p : Option Byte} (hunting : s.port.assembler = .hunt p)
    (legal : body.length + 1 ≤ 1024) :
    ([0xD2, 0x4B] ++ bytes16 (body.length + 1) ++ code :: body ++
      bytes16 (sum16 (bytes16 (body.length + 1) ++ code :: body)).toNat).foldl (fun t b => takeByte b t) s =
      performRequest code body s := by
  let h := byte ((body.length + 1) / 256)
  let b := byte (body.length + 1)
  have length : h.toNat * 256 + b.toNat = body.length + 1 := bytes16_value legal
  have bodies := foldl_takeByte_body (s := s) (h.toNat * 256 + b.toNat) (List.cons_ne_nil code body) []
    (h.setWidth 16 + b.setWidth 16) (by rw [length, List.length_cons, List.length_nil, Nat.zero_add])
  have counted : sum16 (bytes16 (body.length + 1) ++ code :: body) =
      (code :: body).foldl (fun t b => t + b.setWidth 16) (h.setWidth 16 + b.setWidth 16) := by
    have zero : (0 : Word) + h.setWidth 16 = h.setWidth 16 := BitVec.zero_add _
    rw [← zero]
    rfl
  obtain ⟨x, y, bytes, word⟩ := bytes16_word (sum16 (bytes16 (body.length + 1) ++ code :: body))
  have start : ([0xD2, 0x4B] ++ bytes16 (body.length + 1)).foldl (fun t b => takeByte b t) s =
      receiving (.body (h.toNat * 256 + b.toNat) [] (h.setWidth 16 + b.setWidth 16)) s := by
    have walked : ([0xD2, 0x4B] ++ bytes16 (body.length + 1)).foldl (fun t b => takeByte b t) s =
        takeByte b (takeByte h (takeByte 0x4B (takeByte 0xD2 s))) := rfl
    rw [walked, takeByte_start hunting, takeByte_length_second (by omega)]
  rw [bytes, List.foldl_append, List.foldl_append, start, bodies, ← counted]
  exact takeByte_check word

end

/-- Settles O18: `request_assembles`, and the table of requests against the commands. -/
theorem requestMessageAssembles : Obligations.RequestMessageAssembles := by
  refine ⟨fun code body p s hunting legal => request_assembles code body hunting legal, ?_⟩
  intro table body s running
  refine ⟨fun e listed => ?_, fun code unlisted => ?_⟩
  · obtain ⟨act, performs⟩ := requestTable_performs e listed
    obtain ⟨acts, performed⟩ := performs body s
    rw [acts, performed, whileRunning_running running]
    exact ⟨rfl, request_wrong⟩
  · have unknown : performRequest code body = unknownRequest code :=
      (performRequest_cases code body).resolve_right fun ⟨e, listed, same⟩ => unlisted e listed same
    rw [exec_unknownRequest, whileRunning_running running, unknown]
    exact ⟨rfl, fun accepts => offer_refused accepts.2 rfl⟩

end Sys2Proof.Machine
end

section
/-! PROOFS. Failures of a sign-on. -/

namespace Sys2Proof.Machine

open Sys2Proof.Safety

section
variable {s : State} {i p : SlotId} {r : RecordId} {x : Record}

/-! ### A sign-on stopped by its record -/

/-- The state once the sign-on at slot `i` has been stopped, with record `r` as `y` (step 1 of R66). -/
def signOnStopped (i : SlotId) (r : RecordId) (s : State) (y : Record) : State :=
  ((s.withEngine (s.engine.withdraw (Job.isVerifyOf i))).withRecord r (some y)).withSlot i
    { s.slot i with responseTimer := none, challenge := none }

theorem stopSignOn_pending (signing : (s.slot i).signingOn = true) (held : s.record r = some x)
    (pending : x.pendingSlot = some i) (unique : ∀ q y, s.record q = some y → y.pendingSlot = some i → q = r) :
    stopSignOn i s = signOnStopped i r s { x with pendingSlot := none } := by
  have found : pendingRecord i (withdraw (Job.isVerifyOf i) s) = some r :=
    pendingRecord_of_unique (s := withdraw (Job.isVerifyOf i) s) held pending unique
  rw [stopSignOn_signing signing, clearPending_some found, onRecord, record_withdraw, held]
  rfl

theorem signOnStopped_withRecord (y z : Record) :
    (signOnStopped i r s y).withRecord r (some z) = signOnStopped i r s z := by
  have swapped : (signOnStopped i r s y).withRecord r (some z) =
      (((s.withEngine (s.engine.withdraw (Job.isVerifyOf i))).withRecord r (some y)).withRecord r (some z)).withSlot i
        { s.slot i with responseTimer := none, challenge := none } := rfl
  rw [swapped, withRecord_withRecord]
  rfl

theorem signOnStopped_record (y : Record) (q : RecordId) :
    (signOnStopped i r s y).record q = if r = q then some y else s.record q := by
  have kept : (signOnStopped i r s y).record q =
      ((s.withEngine (s.engine.withdraw (Job.isVerifyOf i))).withRecord r (some y)).record q := rfl
  rw [kept, record_withRecord]
  rfl

/-! ### A failure counted -/

/-- A record that a failure makes BARRED (R76). -/
def Record.barred (x : Record) : Record := { x with faults := 255, standing := .barred }

theorem countFailure_low (held : s.record r = some x) (trusted : x.standing ≠ .barred) (low : x.faults + 8 ≤ 255) :
    countFailure r s = failureCounted r x fun y => s.withRecord r (some y) := by
  have counted : countFailure r s = setStandingOf r (x.faults + 8) (if 128 ≤ x.faults + 8 then .suspect else x.standing) s := by
    rw [countFailure, held]
    dsimp only
    rw [if_neg trusted, if_neg (show ¬Config.faultMax < x.faults + Config.faultStep from Nat.not_lt.mpr low)]
    rfl
  rw [counted, failureCounted, if_pos low]
  by_cases high : 128 ≤ x.faults + 8
  · rw [if_pos high]
    dsimp only
    by_cases same : Standing.suspect = x.standing
    · rw [if_pos same, setStandingOf_same held same.symm]
    · rw [if_neg same, setStandingOf_changed held (Ne.symm same)]
      rfl
  · rw [if_neg high]
    dsimp only
    rw [if_pos rfl, setStandingOf_same held rfl]

theorem countFailure_high (held : s.record r = some x) (trusted : x.standing ≠ .barred) (high : 255 < x.faults + 8) :
    countFailure r s = barRecord r (post .standingChanged none none (some r) 2 (s.withRecord r (some x.barred))) := by
  have counted : countFailure r s = barRecord r (setStandingOf r 255 .barred s) := by
    rw [countFailure, held]
    dsimp only
    rw [if_neg trusted, if_pos (show Config.faultMax < x.faults + Config.faultStep from high)]
    rfl
  rw [counted, setStandingOf_changed held trusted]
  rfl

theorem barRecord_alone (held : s.record r = some x) (idle : x.pendingSlot = none) : barRecord r s =
    match x.admittedSlot with
    | none => s
    | some a => signOffSlot .barred a s := by
  have none : refusePending r s = s := by
    rw [refusePending, held]
    dsimp only [Option.bind]
    rw [idle]
  rw [barRecord_eq, none, held]
  dsimp only [Option.bind]
  cases x.admittedSlot <;> rfl

/-- A failure counted against a record with no sign-on pending, or short of a bar (R76, R78). -/
theorem countFailure_counted (held : s.record r = some x) (trusted : x.standing ≠ .barred)
    (calm : x.faults + 8 ≤ 255 ∨ x.pendingSlot = none) :
    countFailure r s = failureCounted r x fun y => s.withRecord r (some y) := by
  by_cases low : x.faults + 8 ≤ 255
  · exact countFailure_low held trusted low
  · have barred : (post .standingChanged none none (some r) 2 (s.withRecord r (some x.barred))).record r =
        some x.barred := by
      rw [record_post, record_withRecord, if_pos rfl]
    rw [countFailure_high held trusted (Nat.lt_of_not_le low), failureCounted, if_neg low,
      barRecord_alone barred (calm.resolve_left low)]
    rfl

/-! ### Refusals for a failure -/

theorem refuse_failure {reason : Reason} (failure : reason.isFailure = true) : refuse i reason (some r) s =
    concludeRefusal i reason (some r) (countFailure r (stopSignOn i s)) := by
  unfold refuse
  dsimp only
  rw [if_pos failure]

/-- A failed sign-on in progress (R66, R76). -/
theorem refuse_signing {reason : Reason} (failure : reason.isFailure = true) (signing : (s.slot i).signingOn = true)
    (held : s.record r = some x) (trusted : x.standing ≠ .barred) (pending : x.pendingSlot = some i)
    (unique : ∀ q y, s.record q = some y → y.pendingSlot = some i → q = r) :
    Refused i reason (some r) (failureCounted r { x with pendingSlot := none } (signOnStopped i r s))
      (refuse i reason (some r) s) := by
  have stopped : (signOnStopped i r s { x with pendingSlot := none }).record r = some { x with pendingSlot := none } := by
    rw [signOnStopped_record, if_pos rfl]
  have base : (fun y => (signOnStopped i r s { x with pendingSlot := none }).withRecord r (some y)) =
      signOnStopped i r s := funext fun y => signOnStopped_withRecord _ y
  rw [refuse_failure failure, stopSignOn_pending signing held pending unique,
    countFailure_counted stopped trusted (.inr rfl), base]
  exact concludeRefusal_refused ..

/-- The sign-on pending elsewhere, refused when its record is BARRED (R78). -/
def pendingBarred (p : SlotId) (r : RecordId) (x : Record) (s : State) : State :=
  concludeRefusal p .barred (some r) (signOnStopped p r s { x with pendingSlot := none })

theorem barRecord_elsewhere (held : s.record r = some x) (pending : x.pendingSlot = some p)
    (signing : (s.slot p).signingOn = true)
    (unique : ∀ q y, s.record q = some y → y.pendingSlot = some p → q = r) : barRecord r s =
      match x.admittedSlot with
      | none => pendingBarred p r x s
      | some a => signOffSlot .barred a (pendingBarred p r x s) := by
  have refused : refusePending r s = pendingBarred p r x s := by
    rw [refusePending, held]
    dsimp only [Option.bind]
    rw [pending]
    dsimp only
    rw [stopSignOn_pending signing held pending unique, pendingBarred]
  have record : (pendingBarred p r x s).record r = some { x with pendingSlot := none } := by
    rw [pendingBarred, concludeRefusal_record, signOnStopped_record, if_pos rfl]
  rw [barRecord_eq, refused, record]
  dsimp only [Option.bind]
  cases x.admittedSlot <;> rfl

theorem exec_responseTimeout : ∀ (i : SlotId) (s : State),
    exec (.responseTimeout i) s = whileRunning (responseTimeout i) s := by
  intros
  rfl

theorem exec_verifyDelivery : ∀ s : State, exec .verifyDelivery s = whileRunning verifyDelivery s := by
  intros
  rfl

theorem judgeVerify_failed {answer output : BitVec 32} (held : s.record r = some x)
    (verifying : (s.slot i).admission = .verifying) (pending : x.pendingSlot = some i) (wrong : output ≠ answer) :
    judgeVerify i r answer output s = refuse i .badResponse (some r) s := by
  rw [judgeVerify, held]
  dsimp only
  rw [if_pos ⟨verifying, pending⟩, if_pos wrong]

theorem verifyDelivery_eq {op : Operation} {answer : BitVec 32} (flown : s.engine.operation = some op)
    (complete : op.complete = true) (job : op.job = .verify i r answer) :
    verifyDelivery s = judgeVerify i r answer op.output (s.withEngine (s.engine.rested op)) := by
  unfold verifyDelivery
  rw [completed_of_complete flown complete]
  dsimp only
  rw [finishOperation_eq, job]

end

/-- Settles O33: each failure is a refusal for a failure, counted against its record. -/
theorem failedSignOnsCount : Obligations.FailedSignOnsCount := by
  intro i r x s running held trusted alone stopped
  refine ⟨fun timer pending unique challenged timed due limit => ?_,
    fun op answer pending unique flown complete job wrong verifying => ?_,
    fun serial arrives locked wellFormed unique other => ?_⟩
  · have signing : (s.slot i).signingOn = true := (signingOn_iff _).mpr (.inl challenged)
    have late : expired s.timers.responseTimeout (s.slot i).responseTimer = true := by
      rw [timed]
      exact expired_of_due due limit
    refine ⟨_, ?_, refuse_signing rfl signing held trusted pending unique⟩
    rw [exec_responseTimeout, whileRunning_running running, responseTimeout, if_pos ⟨challenged, late⟩,
      pendingRecord_of_unique held pending unique]
  · have signing : (s.slot i).signingOn = true := (signingOn_iff _).mpr (.inr verifying)
    have refused := refuse_signing (s := s.withEngine (s.engine.rested op)) (reason := .badResponse) rfl signing held
      trusted pending unique
    refine ⟨refuse i .badResponse (some r) (s.withEngine (s.engine.rested op)), ?_, refused⟩
    rw [exec_verifyDelivery, whileRunning_running running, verifyDelivery_eq flown complete job,
      judgeVerify_failed (s := s.withEngine (s.engine.rested op)) held verifying pending wrong]
  · have hunted : (huntAssembler i s).slot i = { s.slot i with assembler := .hunt none } := slot_huntAssembler_self
    have idle : ((huntAssembler i s).slot i).signingOn = false := by
      rw [hunted, Slot.signingOn, locked]
      rfl
    have acts : exec (.signOn i x.number serial) s =
        .next (concludeRefusal i .wrongHandset (some r) (countFailure r (huntAssembler i s))) := by
      rw [exec_signOn, onArrival_arrives arrives, takeSignOn_locked (by rw [hunted]; exact locked),
        judgeSignOn_known (s := huntAssembler i s) wellFormed held rfl unique, if_neg trusted, if_pos other,
        refuse_failure rfl, stopSignOn_idle idle]
    intro base
    have based : (fun y => (huntAssembler i s).withRecord r (some y)) = base := rfl
    refine ⟨fun calm => ⟨_, acts, ?_⟩, fun p high pending signing unique' => ?_⟩
    · rw [countFailure_counted (s := huntAssembler i s) held trusted calm, based]
      exact concludeRefusal_refused ..
    · intro barred posted
      have apart : i ≠ p := by
        rintro rfl
        rw [Slot.signingOn, locked] at signing
        exact absurd signing (by decide)
      have record (q : RecordId) : posted.record q = if r = q then some barred else s.record q := by
        rw [record_post, ← record_withRecord]
        rfl
      have slot : (posted.slot p).signingOn = true := by
        have kept : posted.slot p = s.slot p := (slot_post ..).trans (slot_huntAssembler_other apart.symm)
        rw [kept]
        exact signing
      have uniquely (q : RecordId) (y : Record) (found : posted.record q = some y) (named : y.pendingSlot = some p) :
          q = r := by
        rw [record] at found
        split at found
        next same => exact same.symm
        · exact unique' q y found named
      have bars : countFailure r (huntAssembler i s) = barRecord r posted := countFailure_high held trusted high
      refine ⟨_, pendingBarred p r barred posted, acts, concludeRefusal_refused .., ?_⟩
      rw [bars, barRecord_elsewhere (x := barred) (by rw [record, if_pos rfl]) pending slot uniquely]
      exact concludeRefusal_refused ..

end Sys2Proof.Machine
end

section
/-! PROOFS. The end of an admission. -/

namespace Sys2Proof.Machine

open Sys2Proof.Safety

/-! ### Contexts changed along a list -/

theorem forEach_contexts {f : ContextId → State → State} {g : Option Context → Option Context}
    (again : ∀ o, g (g o) = g o) (self : ∀ c t, (f c t).context c = g (t.context c))
    (other : ∀ c d t, d ≠ c → (f c t).context d = t.context d) (cs : List ContextId) (s : State) (d : ContextId) :
    (forEach cs f s).context d = if d ∈ cs then g (s.context d) else s.context d := by
  induction cs generalizing s with
  | nil => exact (if_neg List.not_mem_nil).symm
  | cons c rest ih =>
    rw [forEach_cons, ih]
    by_cases same : d = c
    · subst same
      rw [self, again, ite_self, if_pos List.mem_cons_self]
    · rw [other c d s same]
      refine if_congr ?_ rfl rfl
      rw [List.mem_cons]
      exact ⟨.inr, fun member => member.resolve_left same⟩

/-! ### Partners of a slot that signs off -/

section
variable {c d : ContextId} {x y : Context} {s t u : State}

/-- A context whose partner is gone (step 1 of R75). -/
def Context.left (x : Context) : Context := { x with gone := true }

theorem context_markGone (cs : List ContextId) (s : State) (d : ContextId) :
    (forEach cs markGone s).context d = if d ∈ cs then (s.context d).map Context.left else s.context d := by
  refine forEach_contexts (g := Option.map Context.left) (fun o => ?_) (fun c t => ?_) (fun c d t other => ?_) cs s d
  · rw [Option.map_map]
    rfl
  · rw [markGone, context_onContext, if_pos rfl]
    rfl
  · rw [markGone, context_onContext, if_neg other.symm]

theorem markGone_rest (cs : List ContextId) (s : State) :
    forEach cs markGone s = { s with contexts := (forEach cs markGone s).contexts } :=
  forEach_keeps (P := fun t => t = { s with contexts := t.contexts }) (fun c t same => by
    have marked : markGone c t = { t with contexts := (markGone c t).contexts } := rfl
    rw [marked, same]) cs s rfl

/-- What a sign-off leaves of a partner (step 2 of R75, R108). -/
def Context.parted (x : Context) : Option Context :=
  if x.phase = .closing then some x
  else if x.scrambler.sending = true then some (x.haltFor .signOff).startClearing
  else none

theorem parted_closing (closing : x.phase = .closing) : x.parted = some x := if_pos closing

theorem parted_sending (phase : x.phase ≠ .closing) (sends : x.scrambler.sending = true) :
    x.parted = some (x.haltFor .signOff).startClearing := by
  rw [Context.parted, if_neg phase, if_pos sends]

theorem parted_silent (phase : x.phase ≠ .closing) (silent : x.scrambler.sending = false) : x.parted = none := by
  rw [Context.parted, if_neg phase, if_neg (by rw [silent]; exact Bool.false_ne_true)]

theorem assignBlock_kept (x : Context) : x.assignBlock.cause = x.cause ∧ x.assignBlock.gone = x.gone := by
  unfold Context.assignBlock
  dsimp only
  split <;> exact ⟨rfl, rfl⟩

theorem startClearing_fields (x : Context) (cause : CloseCause) : (x.haltFor cause).startClearing.phase = .closing ∧
    (x.haltFor cause).startClearing.gone = x.gone ∧ (x.haltFor cause).startClearing.cause = some cause ∧
    (x.haltFor cause).startClearing.scrambler.state = .clearing := by
  obtain ⟨kept, gone⟩ := assignBlock_kept (x.haltFor cause)
  unfold Context.startClearing
  dsimp only
  split
  · exact ⟨rfl, gone, kept, rfl⟩
  · exact ⟨rfl, rfl, rfl, rfl⟩

theorem parted_closes (left : x.parted = some y) : y.phase = .closing ∧ y.gone = x.gone := by
  by_cases closing : x.phase = .closing
  · rw [parted_closing closing] at left
    obtain rfl := Option.some.inj left
    exact ⟨closing, rfl⟩
  · cases sends : x.scrambler.sending with
    | true =>
      rw [parted_sending closing sends] at left
      obtain ⟨phase, gone, -, -⟩ := startClearing_fields x .signOff
      rw [← Option.some.inj left]
      exact ⟨phase, gone⟩
    | false =>
      rw [parted_silent closing sends] at left
      exact absurd left nofun

theorem context_closeContext_self (c : ContextId) (t : State) :
    (closeContext c .signOff t).context c = (t.context c).bind Context.parted := by
  obtain ⟨ended, same⟩ | ⟨x, held, phase, ⟨sends, -, clears⟩ | ⟨silent, frees⟩⟩ := closeContext_cases c .signOff t
  · rw [same]
    cases held : t.context c with
    | none => rfl
    | some x => exact (parted_closing (ended x held)).symm
  · rw [clears, context_withContext_self, held]
    exact (parted_sending phase sends).symm
  · rw [frees, freeContext_haltFor, privacyOff_context, afterFree_context, held]
    exact (parted_silent phase (silent.resolve_right nofun)).symm

theorem context_closeContext_other (cause : CloseCause) (t : State) (other : d ≠ c) :
    (closeContext c cause t).context d = t.context d := by
  obtain ⟨-, same⟩ | ⟨x, -, -, ⟨-, -, clears⟩ | ⟨-, frees⟩⟩ := closeContext_cases c cause t
  · rw [same]
  · rw [clears, context_withContext_of_ne _ other.symm, context_withdraw]
  · rw [frees, freeContext_haltFor, privacyOff_context, afterFree_context_other other, context_withdraw]

theorem context_closes (cs : List ContextId) (s : State) (d : ContextId) :
    (forEach cs (fun c => closeContext c .signOff) s).context d =
      if d ∈ cs then (s.context d).bind Context.parted else s.context d := by
  refine forEach_contexts (g := fun o => o.bind Context.parted) (fun o => ?_) (fun c t => context_closeContext_self c t)
    (fun c d t other => context_closeContext_other .signOff t other) cs s d
  cases o with
  | none => rfl
  | some x =>
    cases left : x.parted with
    | none => simp [left]
    | some y => simp [left, parted_closing (parted_closes left).1]

theorem context_partCalls (i : SlotId) (s : State) (c : ContextId) : (partCalls i s).context c =
    if c ∈ (s.slot i).partners then ((s.context c).map Context.left).bind Context.parted else s.context c := by
  rw [partCalls, context_closes, context_markGone]
  split <;> rfl

/-- A close of a context whose partner is gone says nothing to a handset (R110). -/
theorem closeContext_left (held : t.context c = some y) (gone : y.gone = true) :
    (y.phase = .closing ∧ closeContext c .signOff t = t) ∨
      (y.phase ≠ .closing ∧ y.scrambler.sending = true ∧
        ∃ e z, closeContext c .signOff t = (t.withEngine e).withContext c (some z)) ∨
      (y.phase ≠ .closing ∧ y.scrambler.sending = false ∧
        ∃ e, closeContext c .signOff t = afterFree c y (some .signOff) (t.withEngine e)) := by
  by_cases phase : y.phase = .closing
  · refine .inl ⟨phase, ?_⟩
    rw [closeContext, held]
    exact if_pos phase
  · cases sends : y.scrambler.sending with
    | true =>
      refine .inr (.inl ⟨phase, rfl, t.engine.withdraw (Job.isDeriveOf c), (y.haltFor .signOff).startClearing, ?_⟩)
      rw [closeContext, held]
      dsimp only
      rw [if_neg phase, sends]
      rfl
    | false =>
      refine .inr (.inr ⟨phase, rfl, t.engine.withdraw (Job.isDeriveOf c), ?_⟩)
      rw [closeContext_silent held phase sends, privacyOff_unheard (x := y.haltFor .signOff) (.inr (.inl gone))]
      rfl

/-- A slot record that has lost bindings at most. -/
def Slot.Unbound (r t : Slot) : Prop := t = { r with boundContext := t.boundContext, partners := t.partners }

theorem Slot.Unbound.trans {r t u : Slot} (a : r.Unbound t) (b : t.Unbound u) : r.Unbound u := by
  rw [Slot.Unbound, b, a]

theorem unbound_onSlot {f : Slot → Slot} (unbinds : ∀ r : Slot, r.Unbound (f r)) (k : SlotId) (s : State) (j : SlotId) :
    (s.slot j).Unbound ((onSlot k f s).slot j) := by
  rw [slot_onSlot]
  split
  next same =>
    rw [same]
    exact unbinds _
  · exact rfl

theorem slot_unbind (c : ContextId) (x : Context) (s : State) (j : SlotId) :
    (s.slot j).Unbound ((unbind c x s).slot j) := by
  unfold unbind
  exact (unbound_onSlot (f := fun r => { r with boundContext := none }) (fun _ => rfl) x.tie s j).trans
    (unbound_onSlot (f := fun r => { r with partners := r.partners.filter (· != c) }) (fun _ => rfl) x.ext _ j)

theorem slot_closeContext_left (gone : ∀ y, t.context c = some y → y.gone = true) (j : SlotId) :
    (t.slot j).Unbound ((closeContext c .signOff t).slot j) := by
  cases held : t.context c with
  | none =>
    rw [closeContext, held]
    exact rfl
  | some y =>
    obtain ⟨-, same⟩ | ⟨-, -, e, z, clears⟩ | ⟨-, -, e, frees⟩ := closeContext_left held (gone y held)
    · rw [same]
      exact rfl
    · rw [clears, slot_withContext, slot_withEngine]
      exact rfl
    · rw [frees, afterFree_slot]
      exact slot_unbind c y (t.withEngine e) j

theorem slot_closes {cs : List ContextId} (gone : ∀ c ∈ cs, ∀ y, t.context c = some y → y.gone = true) (j : SlotId) :
    (t.slot j).Unbound ((forEach cs (fun c => closeContext c .signOff) t).slot j) := by
  induction cs generalizing t with
  | nil => exact rfl
  | cons c rest ih =>
    rw [forEach_cons]
    refine (slot_closeContext_left (gone c List.mem_cons_self) j).trans (ih ?_)
    intro d member y held
    by_cases same : d = c
    · subst same
      rw [context_closeContext_self] at held
      obtain ⟨x, before, left⟩ := Option.bind_eq_some_iff.mp held
      exact (parted_closes left).2.trans (gone d List.mem_cons_self x before)
    · rw [context_closeContext_other .signOff t same] at held
      exact gone d (List.mem_cons_of_mem c member) y held

/-- The partners of a slot that signs off end without a message or a tone to a handset. -/
theorem slot_partCalls (i : SlotId) (s : State) (j : SlotId) : (s.slot j).Unbound ((partCalls i s).slot j) := by
  have marked := markGone_rest (s.slot i).partners s
  have slots : (forEach (s.slot i).partners markGone s).slot j = s.slot j := by
    rw [marked]
    rfl
  rw [partCalls, ← slots]
  refine slot_closes (fun c member y held => ?_) j
  rw [context_markGone, if_pos member] at held
  obtain ⟨x, -, rfl⟩ := Option.map_eq_some_iff.mp held
  rfl

/-! The call records and events of the partners freed. -/

/-- One free of `freedInTurn`, when it is selected. -/
def freeWhen (frees : Context → Bool) (cause : Context → Option CloseCause) (s u : State) (c : ContextId) : State :=
  match s.context c with
  | none => u
  | some x => if frees x then afterFree c x (cause x) u else u

theorem freedInTurn_foldl (frees : Context → Bool) (cause : Context → Option CloseCause) (cs : List ContextId)
    (s : State) : freedInTurn frees cause cs s = cs.foldl (freeWhen frees cause s) s := by
  have step : (fun (u : State) c => match s.context c with
      | none => u
      | some x => if frees x then afterFree c x (cause x) u else u) = freeWhen frees cause s := by
    funext u c
    unfold freeWhen
    cases s.context c <;> rfl
  exact congrArg (fun f => cs.foldl f s) step

/-- The partners that a sign-off frees at once (R108). -/
def Context.silentPartner (x : Context) : Bool :=
  decide (x.phase ≠ .closing ∧ x.scrambler.state ≠ .running ∧ x.scrambler.state ≠ .announcing)

theorem silentPartner_iff : x.silentPartner = true ↔ x.phase ≠ .closing ∧ x.scrambler.sending = false := by
  rw [Context.silentPartner, decide_eq_true_iff]
  refine and_congr_right fun _ => ?_
  rw [← Bool.not_eq_true, sending_iff, not_or]

/-- Two states with the same call records, events and clock. -/
def Logged (t u : State) : Prop := t.records = u.records ∧ t.events = u.events ∧ t.clock = u.clock

theorem afterFree_logged (x : Context) (logged : Logged t u) :
    Logged (afterFree c x.left (some .signOff) t) (afterFree c x (some .signOff) u) := by
  obtain ⟨records, events, clock⟩ := logged
  refine ⟨(afterFree_records_congr c x.left _ records clock).trans ?_,
    (afterFree_events_congr c x.left _ events clock).trans ?_, ?_⟩
  · rw [afterFree_parts, afterFree_parts]
    rfl
  · rw [afterFree_parts, afterFree_parts]
    rfl
  · rw [afterFree_clock, afterFree_clock, clock]

theorem closeContext_logged (marked : t.context c = (s.context c).map Context.left) (logged : Logged t u) :
    Logged (closeContext c .signOff t) (freeWhen Context.silentPartner (fun _ => some .signOff) s u c) := by
  unfold freeWhen
  cases held : s.context c with
  | none =>
    have same : closeContext c .signOff t = t := by rw [closeContext, marked, held]; rfl
    rw [same]
    exact logged
  | some x =>
    have held' : t.context c = some x.left := by rw [marked, held]; rfl
    dsimp only
    obtain ⟨closing, same⟩ | ⟨-, sends, e, z, clears⟩ | ⟨phase, silent, e, frees⟩ := closeContext_left held' rfl
    · rw [same, if_neg fun frees => (silentPartner_iff (x := x).mp frees).1 closing]
      exact logged
    · rw [clears, if_neg fun frees => absurd ((silentPartner_iff (x := x).mp frees).2.symm.trans sends) nofun]
      exact logged
    · rw [frees, if_pos (silentPartner_iff (x := x).mpr ⟨phase, silent⟩)]
      exact afterFree_logged x logged

theorem forEach_closes_logged {cs : List ContextId} (nodup : cs.Nodup)
    (marked : ∀ c ∈ cs, t.context c = (s.context c).map Context.left) (logged : Logged t u) :
    Logged (forEach cs (fun c => closeContext c .signOff) t)
      (cs.foldl (freeWhen Context.silentPartner (fun _ => some .signOff) s) u) := by
  induction cs generalizing t u with
  | nil => exact logged
  | cons c rest ih =>
    obtain ⟨absent, nodup'⟩ := List.nodup_cons.mp nodup
    rw [forEach_cons, List.foldl_cons]
    refine ih nodup' (fun d member => ?_) (closeContext_logged (marked c List.mem_cons_self) logged)
    have other : d ≠ c := fun same => absent (same ▸ member)
    rw [context_closeContext_other .signOff t other]
    exact marked d (List.mem_cons_of_mem c member)

theorem partCalls_logged {i : SlotId} (nodup : (s.slot i).partners.Nodup) : Logged (partCalls i s)
    (freedInTurn Context.silentPartner (fun _ => some .signOff) (s.slot i).partners s) := by
  have rest := markGone_rest (s.slot i).partners s
  rw [freedInTurn_foldl, partCalls]
  refine forEach_closes_logged nodup (fun c member => ?_) ?_
  · rw [context_markGone, if_pos member]
  · rw [rest]
    exact ⟨rfl, rfl, rfl⟩

end

/-! ### What a sign-off leaves -/

section
variable {cause : SignOffCause} {i : SlotId} {s : State} {n : ExtensionNumber} {serial : BitVec 48}

theorem dropUnbegun_sending {r : Slot} {k : Nat} (sending : r.transmitter = .sending k) :
    r.dropUnbegun = { r with txQueue := r.txQueue.take 1, startDue := false } := by
  rw [Slot.dropUnbegun, sending]

theorem dropUnbegun_waiting {r : Slot} (waiting : ∀ k, r.transmitter ≠ .sending k) :
    r.dropUnbegun = { r with txQueue := [], startDue := false } := by
  unfold Slot.dropUnbegun
  split
  next k sending => exact absurd sending (waiting k)
  · rfl

/-- The slot record that has signed off (R75). -/
theorem signOffSlot_fields (admitted : (s.slot i).isAdmitted = true) : ∃ r, (s.slot i).Follows r ∧
    r.txQueue = (s.slot i).txQueue ∧ r.transmitter = (s.slot i).transmitter ∧
      (signOffSlot cause i s).slot i = r.dropTones.dropUnbegun.lockOut := by
  have follows := (partCalls_closes i s).slot i
  have unbound := slot_partCalls i s i
  refine ⟨(partCalls i s).slot i, follows, ?_, ?_, signOffSlot_slot_self cause admitted⟩
  · rw [unbound]
  · rw [unbound]

theorem dropUnbegun_kept (r : Slot) : r.dropUnbegun.tone = r.tone ∧ r.dropUnbegun.pendingTone = r.pendingTone ∧
    r.dropUnbegun.transmitter = r.transmitter ∧ r.dropUnbegun.startDue = false := by
  unfold Slot.dropUnbegun
  split <;> exact ⟨rfl, rfl, rfl, rfl⟩

theorem signOffSlot_silences (admitted : (s.slot i).isAdmitted = true) : ((signOffSlot cause i s).slot i).tone = none ∧
    ((signOffSlot cause i s).slot i).pendingTone = none ∧
    ((signOffSlot cause i s).slot i).transmitter = (s.slot i).transmitter ∧
    ((signOffSlot cause i s).slot i).startDue = false := by
  obtain ⟨r, -, -, transmitter, slot⟩ := signOffSlot_fields (cause := cause) admitted
  obtain ⟨tone, pending, sends, start⟩ := dropUnbegun_kept r.dropTones
  rw [slot]
  exact ⟨tone, pending, sends.trans transmitter, start⟩

theorem signOffSlot_sending {k : Nat} (admitted : (s.slot i).isAdmitted = true)
    (sending : (s.slot i).transmitter = .sending k) :
    ((signOffSlot cause i s).slot i).txQueue = (s.slot i).txQueue.take 1 := by
  obtain ⟨r, -, queue, transmitter, slot⟩ := signOffSlot_fields (cause := cause) admitted
  rw [slot, dropUnbegun_sending (r := r.dropTones) (transmitter.trans sending), ← queue]
  rfl

theorem signOffSlot_waiting (admitted : (s.slot i).isAdmitted = true)
    (waiting : ∀ k, (s.slot i).transmitter ≠ .sending k) : ((signOffSlot cause i s).slot i).txQueue = [] := by
  obtain ⟨r, -, -, transmitter, slot⟩ := signOffSlot_fields (cause := cause) admitted
  have still : ∀ k, r.dropTones.transmitter ≠ .sending k := fun k sending => waiting k (transmitter.symm.trans sending)
  rw [slot, dropUnbegun_waiting still]
  rfl

theorem context_signOffSlot_partner {c : ContextId} (admitted : (s.slot i).isAdmitted = true)
    (partner : c ∈ (s.slot i).partners) :
    (signOffSlot cause i s).context c = ((s.context c).map Context.left).bind Context.parted := by
  rw [context_signOffSlot, if_pos admitted, context_partCalls, if_pos partner]

theorem signOffSlot_logged (admitted : (s.slot i).isAdmitted = true) :
    (signOffSlot cause i s).records = (partCalls i s).records ∧ (signOffSlot cause i s).events =
      (post .signedOff (some i) none (s.slot i).boundIndex cause.code (partCalls i s)).events := by
  have released : Logged (onSlot i Slot.lockOut (releaseAdmission (s.slot i) (quietSlot i (partCalls i s))))
      (partCalls i s) := by
    rw [releaseAdmission_eq]
    exact ⟨rfl, rfl, rfl⟩
  rw [signOffSlot_admitted admitted]
  exact ⟨(post_records ..).trans released.1, post_events_congr _ _ _ _ _ released.2.1 released.2.2⟩

theorem signOffSlot_visitors_count (admitted : (s.slot i).isAdmitted = true) (unbound : (s.slot i).boundIndex = none)
    (visitor : (s.slot i).visitor = true) : (signOffSlot cause i s).visitors.count = s.visitors.count - 1 := by
  have kept : (quietSlot i (partCalls i s)).visitors = s.visitors := (partCalls_closes i s).tables.2
  have released : (signOffSlot cause i s).visitors =
      (releaseAdmission (s.slot i) (quietSlot i (partCalls i s))).visitors := by
    rw [signOffSlot_admitted admitted, post_visitors]
    rfl
  rw [released, visitors_releaseAdmission, kept, if_pos ⟨unbound, visitor⟩]

theorem partCalls_alone (alone : (s.slot i).partners = []) : partCalls i s = s := by
  rw [partCalls, alone]
  rfl

/-! ### The commands that sign off -/

theorem exec_expiringIdleSignOff : ∀ (i : SlotId) (s : State),
    exec (.expiringIdleSignOff i) s = whileRunning (expiringIdleSignOff i) s := by
  intros
  rfl

theorem admittedMessage_eq (k : ClassId) (visitor privacy : Bool) : admittedMessage k (!visitor && privacy) =
    { type := 0x22, body := [byte k, if visitor = false ∧ privacy = true then 1 else 0] } := by
  cases visitor <;> cases privacy <;> rfl

theorem takeSignOff_admitted (admitted : (s.slot i).isAdmitted = true) :
    takeSignOff i s = signOffSlot .handset i s := by
  have quiet : (s.slot i).signingOn = false := by
    obtain state | state := (isAdmitted_iff _).mp admitted <;> rw [Slot.signingOn, state] <;> rfl
  rw [takeSignOff, if_neg (by rw [quiet]; exact Bool.false_ne_true)]

theorem takeSignOn_same (admitted : (s.slot i).isAdmitted = true) (same : (s.slot i).number = some n) :
    takeSignOn i n serial s = enqueueAdmitted i s := by
  unfold takeSignOn
  obtain state | state := (isAdmitted_iff _).mp admitted <;> rw [state] <;> exact if_pos same

theorem takeSignOn_another (admitted : (s.slot i).isAdmitted = true) (another : (s.slot i).number ≠ some n) :
    takeSignOn i n serial s = judgeSignOn i n serial (signOffSlot .replaced i s) := by
  unfold takeSignOn
  obtain state | state := (isAdmitted_iff _).mp admitted <;> rw [state] <;> exact if_neg another

theorem expiringIdleSignOff_due (expiring : (s.slot i).admission = .expiring) (observed : s.highway.observed = true)
    (settled : (s.slot i).changeDue = false) (idle : 8000 ≤ (s.slot i).idle) :
    expiringIdleSignOff i s = signOffSlot .outOfHours i s :=
  if_pos ⟨expiring, by rw [idleUpToDate, observed, settled]; rfl, idle⟩

theorem huntAssembler_hunting (hunting : (s.slot i).assembler = .hunt none) : huntAssembler i s = s := by
  have same : ({ s.slot i with assembler := .hunt none } : Slot) = s.slot i := by rw [← hunting]
  rw [huntAssembler, onSlot, same, withSlot_slot]

/-- A slot that signs off hunts on, and messages still arrive at it (R37). -/
theorem signOffSlot_arrives (arrives : Arrives i s) (admitted : (s.slot i).isAdmitted = true)
    (hunting : (s.slot i).assembler = .hunt none) :
    Arrives i (signOffSlot cause i s) ∧ huntAssembler i (signOffSlot cause i s) = signOffSlot cause i s := by
  obtain ⟨running, takes, delivers⟩ := arrives
  have spares : Spares s (signOffSlot cause i s) := signOffSlot_spares s cause i
  obtain ⟨r, follows, -, -, slot⟩ := signOffSlot_fields (cause := cause) admitted
  have kept : ((signOffSlot cause i s).slot i).kind = (s.slot i).kind ∧
      ((signOffSlot cause i s).slot i).gate = (s.slot i).gate ∧
      ((signOffSlot cause i s).slot i).assembler = (s.slot i).assembler := by
    rw [slot, dropUnbegun_rest, follows.rest]
    exact ⟨rfl, rfl, rfl⟩
  obtain ⟨kind, gate, assembler⟩ := kept
  refine ⟨⟨?_, ?_, ?_⟩, huntAssembler_hunting (assembler.trans hunting)⟩
  · rw [Running, spares.clock]
    exact running
  · rw [Slot.takesNibbles, kind, gate]
    exact takes
  · rw [lineDelivers, spares.highway]
    exact delivers

end

/-- Settles O31: the parts of a sign-off, and the commands that lead to it. -/
theorem signOffEndsTheAdmission : Obligations.SignOffEndsTheAdmission := by
  intro i s
  have hunted : (huntAssembler i s).slot i = { s.slot i with assembler := .hunt none } := slot_huntAssembler_self
  refine ⟨fun ⟨arrives, admitted⟩ => ⟨_, ?_, rfl⟩, fun running expiring observed settled idle => ?_,
    fun n serial k arrives admitted => ⟨fun same cls room => ?_, fun another => ?_⟩, fun cause admitted => ?_⟩
  · rw [exec_signOff, onArrival_arrives arrives, takeSignOff_admitted (by rw [hunted]; exact admitted)]
  · rw [exec_expiringIdleSignOff, whileRunning_running running, expiringIdleSignOff_due expiring observed settled idle]
  · have kind : ((huntAssembler i s).slot i).kind = .extension := by
      rw [hunted]
      exact arrives_kind arrives
    rw [exec_signOn, onArrival_arrives arrives,
      takeSignOn_same (by rw [hunted]; exact admitted) (by rw [hunted]; exact same),
      enqueueAdmitted_eq (k := k) (by rw [hunted]; exact cls), enqueue_room kind (by rw [hunted]; exact room), hunted,
      admittedMessage_eq, huntAssembler, onSlot_onSlot]
    rfl
  · have admitted' : ((huntAssembler i s).slot i).isAdmitted = true := by
      rw [hunted]
      exact admitted
    have arrives' : Arrives i (huntAssembler i s) := by
      obtain ⟨running, takes, delivers⟩ := arrives
      exact ⟨running, by rw [hunted]; exact takes, delivers⟩
    obtain ⟨still, hunts⟩ := signOffSlot_arrives (cause := .replaced) arrives' admitted' (by rw [hunted])
    have locked := signOffSlot_locked .replaced admitted'
    refine ⟨?_, locked⟩
    rw [exec_signOn, exec_signOn, onArrival_arrives arrives, onArrival_arrives still, hunts,
      takeSignOn_another admitted' (by rw [hunted]; exact another), takeSignOn_locked locked]
  · have slot := signOffSlot_slot_self cause admitted
    obtain ⟨tone, pending, transmitter, start⟩ := signOffSlot_silences (cause := cause) admitted
    obtain ⟨records, events⟩ := signOffSlot_logged (cause := cause) admitted
    refine ⟨by rw [slot]; rfl, by rw [slot]; rfl, by rw [slot]; rfl, by rw [slot]; rfl, by rw [slot]; rfl, tone, pending,
      transmitter, start, fun k => signOffSlot_sending admitted, signOffSlot_waiting admitted, fun c partner y held => ?_,
      fun c partner x held => ⟨fun closing => ?_, fun phase sends => ?_, fun phase running announcing => ?_⟩,
      fun nodup => ?_, fun j other => ?_, fun r x bound held => ?_, signOffSlot_visitors_count admitted, fun alone => ?_⟩
    · rw [context_signOffSlot_partner admitted partner] at held
      obtain ⟨z, marked, left⟩ := Option.bind_eq_some_iff.mp held
      obtain ⟨x, -, rfl⟩ := Option.map_eq_some_iff.mp marked
      exact parted_closes left
    · rw [context_signOffSlot_partner admitted partner, held]
      exact parted_closing (x := x.left) closing
    · obtain ⟨closes, gone, cleared, clearing⟩ := startClearing_fields x.left .signOff
      refine ⟨_, ?_, closes, gone, cleared, clearing⟩
      rw [context_signOffSlot_partner admitted partner, held]
      exact parted_sending (x := x.left) phase ((sending_iff _).mpr sends)
    · rw [context_signOffSlot_partner admitted partner, held]
      refine parted_silent (x := x.left) phase ?_
      rw [← Bool.not_eq_true, sending_iff]
      exact fun sends => sends.elim running announcing
    · obtain ⟨stored, posted, clock⟩ := partCalls_logged nodup
      exact ⟨records.trans stored, events.trans (post_events_congr _ _ _ _ _ posted clock)⟩
    · rw [(signOffSlot_slot_other cause other).rest]
      exact ⟨rfl, rfl⟩
    · rw [signOffSlot_record cause admitted, if_pos bound, held]
      rfl
    · rw [events, partCalls_alone alone]

end Sys2Proof.Machine
end

section
/-! PROOFS. A successful sign-on. -/

namespace Sys2Proof.Machine

open Sys2Proof.Safety

/-! ### The engine while calls end -/

/-- An engine with nothing in flight that enters REST. -/
def Engine.Vacant (e : Engine) : Prop := e.operation = none ∧ e.toRest = true

theorem Engine.Vacant.withdraw {e : Engine} (vacant : e.Vacant) (p : Job → Bool) : (e.withdraw p).Vacant := by
  obtain ⟨operation, rests⟩ := vacant
  refine ⟨?_, ?_⟩
  · rw [Engine.withdraw]
    dsimp only
    rw [operation, ite_self]
  · rw [Engine.withdraw]
    dsimp only
    rw [rests, Bool.true_or]

theorem privacyOff_engine (x : Context) (s : State) : (privacyOff x s).engine = s.engine := by
  unfold privacyOff
  split
  · rw [requestFunction_engine, enqueue_engine]
  · rfl

theorem freeContext_engine (c : ContextId) (s : State) : (freeContext c s).engine = s.engine := by
  unfold freeContext
  split
  · rfl
  next x _ =>
    change (privacyOff x (recordFree c x s)).engine = s.engine
    rw [privacyOff_engine, recordFree, post_engine, storeRecord_engine]
    rfl

theorem closeContext_vacant {s : State} (vacant : s.engine.Vacant) (c : ContextId) (cause : CloseCause) :
    (closeContext c cause s).engine.Vacant := by
  obtain ⟨-, same⟩ | ⟨x, -, -, ⟨-, -, clears⟩ | ⟨-, frees⟩⟩ := closeContext_cases c cause s
  · rw [same]
    exact vacant
  · rw [clears]
    exact vacant.withdraw _
  · rw [frees, freeContext_engine]
    exact vacant.withdraw _

theorem partCalls_vacant {s : State} (vacant : s.engine.Vacant) (i : SlotId) : (partCalls i s).engine.Vacant := by
  have marked := markGone_rest (s.slot i).partners s
  refine forEach_keeps (P := fun t : State => t.engine.Vacant) (fun c t sofar => closeContext_vacant sofar c .signOff)
    (s.slot i).partners _ ?_
  rw [marked]
  exact vacant

theorem signOffSlot_vacant {s : State} (vacant : s.engine.Vacant) (cause : SignOffCause) (i : SlotId) :
    (signOffSlot cause i s).engine.Vacant := by
  cases admitted : (s.slot i).isAdmitted with
  | false =>
    rw [signOffSlot_not_admitted admitted]
    exact vacant
  | true =>
    have kept : (onSlot i Slot.lockOut (releaseAdmission (s.slot i) (quietSlot i (partCalls i s)))).engine =
        (partCalls i s).engine := by
      rw [releaseAdmission_eq]
      rfl
    rw [signOffSlot_admitted admitted, post_engine, kept]
    exact partCalls_vacant vacant i

/-! ### The parts of a successful sign-on -/

/-- The sign-on at slot `i` has ended (step 1 of R71). -/
def signOnEnded (i : SlotId) (r : RecordId) (s : State) : State :=
  onSlot i (fun y => { y with challenge := none }) (onRecord r (fun y => { y with pendingSlot := none }) s)

/-- The record's old slot, if it has one, has signed off (step 2 of R71). -/
def movedFrom (former : Option SlotId) (s : State) : State :=
  match former with
  | some a => signOffSlot .moved a s
  | none => s

/-- A slot admitted under record `r` (step 3 of R71). -/
def Slot.enrolled (r : RecordId) (x : Record) (y : Slot) : Slot :=
  { y with
    admission := .admitted, boundIndex := some r, number := some x.number, admissionClass := some x.cls
    visitor := false }

/-- Slot and record of the new admission (step 3 of R71). -/
def enrolledAt (i : SlotId) (r : RecordId) (x : Record) (stamp : Reading) (m : State) : State :=
  onRecord r (fun y => { y with admittedSlot := some i, lastSignOn := some stamp }) (onSlot i (Slot.enrolled r x) m)

theorem succeed_eq {i : SlotId} {r : RecordId} {x : Record} {s : State} (held : s.record r = some x) : succeed i r s =
    requestFunction .admission i (post .signedOn (some i) none (some r) (byte x.cls.val)
      (enqueueAdmitted i (countSuccess r
        (enrolledAt i r x s.clock.reading (movedFrom x.admittedSlot (signOnEnded i r s)))))) := by
  rw [succeed, held]
  dsimp only
  unfold movedFrom
  cases x.admittedSlot <;> rfl

/-- A record after a success (R77). -/
def Record.succeeded (x : Record) : Record :=
  { x with standing := .good, faults := if x.standing = .good then x.faults - 1 else 127 }

theorem countSuccess_eq {r : RecordId} {y : Record} {s : State} (held : s.record r = some y)
    (trusted : y.standing ≠ .barred) : countSuccess r s =
      if y.standing = .good then s.withRecord r (some y.succeeded)
      else post .standingChanged none none (some r) 0 (s.withRecord r (some y.succeeded)) := by
  unfold Record.succeeded
  rw [countSuccess, held]
  dsimp only
  cases standing : y.standing with
  | barred => exact absurd standing trusted
  | good =>
    rw [if_pos rfl, if_pos rfl]
    exact setStandingOf_same held standing
  | suspect =>
    rw [if_neg (by decide), if_neg (by decide)]
    exact setStandingOf_changed held (by rw [standing]; decide)

/-! ### The old slot's sign-off -/

section
variable {i : SlotId} {r : RecordId} {x : Record} {s : State}

/-- What `m` keeps of `s` once the sign-on at slot `i` has ended and the record's old slot has signed off. -/
structure Moved (i : SlotId) (r : RecordId) (x : Record) (s m : State) : Prop where
  spares : Spares s m
  visitors : m.visitors = s.visitors
  slot : ({ s.slot i with challenge := none } : Slot).Unbound (m.slot i)
  record : ∃ former, m.record r = some { x with pendingSlot := none, admittedSlot := former }
  others : ∀ q, q ≠ r → m.record q = s.record q
  former : ∀ a, x.admittedSlot = some a → (s.slot a).isAdmitted = true → (m.slot a).admission = .locked
  admissions : ∀ j, j ≠ i → x.admittedSlot ≠ some j → (m.slot j).admission = (s.slot j).admission
  alone : x.admittedSlot = none → m = signOnEnded i r s
  vacant : s.engine.Vacant → m.engine.Vacant

theorem signOnEnded_spares : Spares s (signOnEnded i r s) := .of_tables rfl

theorem signOnEnded_slot (j : SlotId) : (signOnEnded i r s).slot j =
    if i = j then { s.slot i with challenge := none } else s.slot j := by
  rw [signOnEnded, slot_onSlot]
  rfl

theorem signOnEnded_record (q : RecordId) : (signOnEnded i r s).record q =
    if r = q then (s.record r).map (fun y => { y with pendingSlot := none }) else s.record q := by
  have kept : (signOnEnded i r s).record q = (onRecord r (fun y => { y with pendingSlot := none }) s).record q := rfl
  rw [kept, record_onRecord]

theorem moved_alone (held : s.record r = some x) (former : x.admittedSlot = none) :
    Moved i r x s (signOnEnded i r s) where
  spares := signOnEnded_spares
  visitors := rfl
  slot := by
    rw [signOnEnded_slot, if_pos rfl]
    exact rfl
  record := ⟨none, by rw [signOnEnded_record, if_pos rfl, held, ← former]; rfl⟩
  others q other := by rw [signOnEnded_record, if_neg other.symm]
  former a named := absurd (former.symm.trans named) nofun
  admissions j other _ := by rw [signOnEnded_slot, if_neg other.symm]
  alone _ := rfl
  vacant := id

/-- A slot other than the one signed off loses bindings at most. -/
theorem slot_signOffSlot_other {cause : SignOffCause} {a j : SlotId} (other : j ≠ a) :
    (s.slot j).Unbound ((signOffSlot cause a s).slot j) := by
  cases admitted : (s.slot a).isAdmitted with
  | false =>
    rw [signOffSlot_not_admitted admitted]
    exact rfl
  | true =>
    rw [signOffSlot_admitted admitted, slot_post, slot_onSlot, if_neg other.symm, slot_releaseAdmission, slot_quietSlot,
      if_neg other.symm]
    exact slot_partCalls a s j

theorem signOffSlot_visitors_bound {cause : SignOffCause} {a : SlotId} (bound : (s.slot a).boundIndex = some r) :
    (signOffSlot cause a s).visitors = s.visitors := by
  cases admitted : (s.slot a).isAdmitted with
  | false => rw [signOffSlot_not_admitted admitted]
  | true =>
    have kept : (quietSlot a (partCalls a s)).visitors = s.visitors := (partCalls_closes a s).tables.2
    have released : (signOffSlot cause a s).visitors =
        (releaseAdmission (s.slot a) (quietSlot a (partCalls a s))).visitors := by
      rw [signOffSlot_admitted admitted, post_visitors]
      rfl
    rw [released, visitors_releaseAdmission, kept, if_neg fun unbound => absurd (unbound.1.symm.trans bound) nofun]

theorem moved_former {a : SlotId} (held : s.record r = some x) (former : x.admittedSlot = some a) (apart : a ≠ i)
    (bound : (s.slot a).boundIndex = some r) : Moved i r x s (signOffSlot .moved a (signOnEnded i r s)) := by
  have slot : (signOnEnded i r s).slot a = s.slot a := by rw [signOnEnded_slot, if_neg apart.symm]
  have ended : (signOnEnded i r s).record r = some { x with pendingSlot := none } := by
    rw [signOnEnded_record, if_pos rfl, held]
    rfl
  have bound' : ((signOnEnded i r s).slot a).boundIndex = some r := slot ▸ bound
  refine ⟨signOnEnded_spares.trans (signOffSlot_spares ..), signOffSlot_visitors_bound bound', ?_, ?_, fun q other => ?_,
    fun b named admitted => ?_, fun j other elsewhere => ?_, fun none => absurd (none.symm.trans former) nofun,
    fun vacant => signOffSlot_vacant (s := signOnEnded i r s) vacant .moved a⟩
  · have unbound := slot_signOffSlot_other (cause := .moved) (s := signOnEnded i r s) apart.symm
    rw [signOnEnded_slot, if_pos rfl] at unbound
    exact unbound
  · obtain same | lost := signOffSlot_record_cases .moved a (signOnEnded i r s) r
    · exact ⟨some a, by rw [same, ended, ← former]⟩
    · exact ⟨none, by rw [lost, ended]; rfl⟩
  · have before : (signOnEnded i r s).record q = s.record q := by rw [signOnEnded_record, if_neg other.symm]
    cases admitted : ((signOnEnded i r s).slot a).isAdmitted with
    | false => rw [signOffSlot_not_admitted admitted, before]
    | true =>
      rw [signOffSlot_record .moved admitted, if_neg fun named => other (Option.some.inj (named.symm.trans bound')),
        before]
  · obtain rfl : a = b := Option.some.inj (former.symm.trans named)
    exact signOffSlot_locked .moved (by rw [slot]; exact admitted)
  · have apart' : j ≠ a := fun same => elsewhere (same ▸ former)
    rw [slot_signOffSlot_other (cause := .moved) (s := signOnEnded i r s) apart', signOnEnded_slot, if_neg other.symm]

theorem movedFrom_moved (held : s.record r = some x) (apart : x.admittedSlot ≠ some i)
    (bound : ∀ a, x.admittedSlot = some a → (s.slot a).boundIndex = some r) :
    Moved i r x s (movedFrom x.admittedSlot (signOnEnded i r s)) := by
  cases former : x.admittedSlot with
  | none => exact moved_alone held former
  | some a => exact moved_former held former (fun same => apart (same ▸ former)) (bound a former)

/-! ### The new admission -/

/-- Record `r` once admitted at slot `i` (R71, R77). -/
def Record.admittedAt (i : SlotId) (stamp : Reading) (x : Record) : Record :=
  { x.succeeded with pendingSlot := none, admittedSlot := some i, lastSignOn := some stamp }

/-- Slot and record of the new admission, and the record's success. -/
def counted (i : SlotId) (r : RecordId) (x : Record) (stamp : Reading) (m : State) : State :=
  countSuccess r (enrolledAt i r x stamp m)

variable {m : State} {stamp : Reading}

theorem counted_eq (moved : Moved i r x s m) (trusted : x.standing ≠ .barred) : counted i r x stamp m =
    if x.standing = .good then (onSlot i (Slot.enrolled r x) m).withRecord r (some (x.admittedAt i stamp))
    else post .standingChanged none none (some r) 0
      ((onSlot i (Slot.enrolled r x) m).withRecord r (some (x.admittedAt i stamp))) := by
  obtain ⟨former, held⟩ := moved.record
  have enrolled : enrolledAt i r x stamp m = (onSlot i (Slot.enrolled r x) m).withRecord r
      (some { x with pendingSlot := none, admittedSlot := some i, lastSignOn := some stamp }) := by
    rw [enrolledAt, onRecord, record_onSlot, held]
    rfl
  have succeeds := countSuccess_eq (s := enrolledAt i r x stamp m) (r := r) (by rw [enrolled, record_withRecord_self])
    (show ({ x with pendingSlot := none, admittedSlot := some i, lastSignOn := some stamp } : Record).standing ≠ .barred
      from trusted)
  rw [enrolled, withRecord_withRecord] at succeeds
  rw [counted, enrolled]
  exact succeeds

theorem counted_slot (moved : Moved i r x s m) (trusted : x.standing ≠ .barred) (j : SlotId) :
    (counted i r x stamp m).slot j = if i = j then (m.slot i).enrolled r x else m.slot j := by
  rw [counted_eq moved trusted, ← slot_onSlot]
  split
  · rfl
  · rw [slot_post]
    rfl

theorem counted_record (moved : Moved i r x s m) (trusted : x.standing ≠ .barred) (q : RecordId) :
    (counted i r x stamp m).record q = if r = q then some (x.admittedAt i stamp) else m.record q := by
  have kept : (if r = q then some (x.admittedAt i stamp) else m.record q) =
      ((onSlot i (Slot.enrolled r x) m).withRecord r (some (x.admittedAt i stamp))).record q := by
    rw [record_withRecord, record_onSlot]
  rw [counted_eq moved trusted, kept]
  split
  · rfl
  · rw [record_post]

/-- The post of a record's change of standing, where it changes (R77). -/
def judgedPost (r : RecordId) (x : Record) (s : State) : State :=
  if x.standing = .good then s else post .standingChanged none none (some r) 0 s

/-- What the new admission leaves alone. -/
theorem counted_rest (moved : Moved i r x s m) (trusted : x.standing ≠ .barred) :
    counted i r x stamp m = { m with
      slots := (counted i r x stamp m).slots, directory := (counted i r x stamp m).directory
      events := (judgedPost r x m).events } := by
  rw [counted_eq moved trusted, judgedPost]
  split
  · rfl
  · rw [post_eq]
    exact State.same rfl rfl rfl rfl rfl rfl rfl rfl rfl rfl rfl (post_events_congr _ _ _ _ _ rfl rfl) rfl rfl rfl

theorem judgedPost_spares (s : State) : Spares s (judgedPost r x s) := by
  unfold judgedPost
  split
  · exact .refl s
  · exact post_spares s ..

theorem counted_spares (moved : Moved i r x s m) (trusted : x.standing ≠ .barred) : Spares m (counted i r x stamp m) := by
  obtain ⟨-, -, -, -, -, -, -, -, -, mask, posted⟩ := judgedPost_spares (r := r) (x := x) m
  rw [counted_rest moved trusted]
  exact ⟨rfl, rfl, rfl, rfl, rfl, rfl, rfl, rfl, rfl, mask, posted⟩

/-! ### The message, the event and the tone -/

/-- ADMITTED under record `x` (R46, R63). -/
def Record.welcome (s : State) (x : Record) : HandsetMessage :=
  { type := 0x22, body := [byte x.cls, if (s.classRecord x.cls).privacy then 1 else 0] }

/-- The loss of an ADMITTED that finds its queue full (R48). -/
def lostPost (i : SlotId) (queued : Nat) (s : State) : State :=
  if queued < 4 then s else post .txOverflow (some i) none none 0x22 s

/-- The state once the slot has heard of its admission. -/
def heard (i : SlotId) (r : RecordId) (x : Record) (stamp : Reading) (m : State) : State :=
  enqueue i (x.welcome m) (counted i r x stamp m)

/-- The whole of step 3 of R71 and what follows it. -/
def welcomed (i : SlotId) (r : RecordId) (x : Record) (stamp : Reading) (m : State) : State :=
  requestFunction .admission i (post .signedOn (some i) none (some r) (byte x.cls) (heard i r x stamp m))

theorem counted_slot_self (moved : Moved i r x s m) (trusted : x.standing ≠ .barred) :
    (counted i r x stamp m).slot i = (m.slot i).enrolled r x := by
  rw [counted_slot moved trusted, if_pos rfl]

theorem enqueueAdmitted_counted (moved : Moved i r x s m) (trusted : x.standing ≠ .barred) :
    enqueueAdmitted i (counted i r x stamp m) = heard i r x stamp m := by
  have slot := counted_slot_self (stamp := stamp) moved trusted
  have privacy : (counted i r x stamp m).classRecord x.cls = m.classRecord x.cls :=
    congrArg (fun classes : Vector ClassRecord 8 => classes[x.cls]) (counted_spares moved trusted).classes
  rw [enqueueAdmitted_eq (k := x.cls) (by rw [slot]; rfl), slot, privacy, heard, Record.welcome]
  cases (m.classRecord x.cls).privacy <;> rfl

theorem succeed_welcomed (held : s.record r = some x) (trusted : x.standing ≠ .barred)
    (moved : Moved i r x s (movedFrom x.admittedSlot (signOnEnded i r s))) :
    succeed i r s = welcomed i r x s.clock.reading (movedFrom x.admittedSlot (signOnEnded i r s)) := by
  rw [succeed_eq held, welcomed, ← enqueueAdmitted_counted moved trusted]
  rfl

/-- The admitted slot, but for its queue and its player. -/
theorem welcomed_slot_self (moved : Moved i r x s m) (trusted : x.standing ≠ .barred) :
    (welcomed i r x stamp m).slot i = { (s.slot i).enrolled r x with
      challenge := none, boundContext := (m.slot i).boundContext, partners := (m.slot i).partners
      txQueue := ((heard i r x stamp m).slot i).txQueue, tone := ((welcomed i r x stamp m).slot i).tone
      pendingTone := ((welcomed i r x stamp m).slot i).pendingTone } := by
  have unbound := moved.slot
  have queued := enqueue_slot_self (s := counted i r x stamp m) (i := i) (x.welcome m)
  have asked := requestFunction_slot_self (i := i)
    (s := post .signedOn (some i) none (some r) (byte x.cls) (heard i r x stamp m)) .admission
  rw [counted_slot_self moved trusted, unbound] at queued
  rw [slot_post, show (heard i r x stamp m).slot i = _ from queued] at asked
  exact asked

theorem welcomed_slot_other (moved : Moved i r x s m) (trusted : x.standing ≠ .barred) {j : SlotId} (other : j ≠ i) :
    (welcomed i r x stamp m).slot j = m.slot j := by
  rw [welcomed, requestFunction_slot_other _ other, slot_post, heard, enqueue_slot_other _ other,
    counted_slot moved trusted, if_neg other.symm]

theorem welcomed_record (moved : Moved i r x s m) (trusted : x.standing ≠ .barred) (q : RecordId) :
    (welcomed i r x stamp m).record q = if r = q then some (x.admittedAt i stamp) else m.record q := by
  rw [welcomed, record_requestFunction, record_post, heard, record_enqueue, counted_record moved trusted]

theorem welcomed_rest (moved : Moved i r x s m) (trusted : x.standing ≠ .barred) : welcomed i r x stamp m = { m with
    slots := (welcomed i r x stamp m).slots, directory := (welcomed i r x stamp m).directory
    events := (welcomed i r x stamp m).events } := by
  have counts := counted_rest (stamp := stamp) moved trusted
  rw [welcomed, requestFunction_eq, post_eq, heard, enqueue_eq, counts]

theorem heard_queue (moved : Moved i r x s m) (trusted : x.standing ≠ .barred) (kind : (s.slot i).kind = .extension) :
    ((heard i r x stamp m).slot i).txQueue = (if (s.slot i).txQueue.length < 4 then
      (s.slot i).txQueue ++ [x.welcome m] else (s.slot i).txQueue) ∧
    (heard i r x stamp m).events =
      (lostPost i (s.slot i).txQueue.length (counted i r x stamp m)).events := by
  have unbound := moved.slot
  have slot := counted_slot_self (stamp := stamp) moved trusted
  have kept : ((counted i r x stamp m).slot i).kind = .extension ∧
      ((counted i r x stamp m).slot i).txQueue = (s.slot i).txQueue := by
    rw [slot, unbound]
    exact ⟨kind, rfl⟩
  obtain ⟨kind', queue⟩ := kept
  unfold heard lostPost
  by_cases room : (s.slot i).txQueue.length < 4
  · rw [if_pos room, if_pos room, enqueue_room kind' (by rw [queue]; exact room), slot_onSlot, if_pos rfl, ← queue]
    exact ⟨rfl, rfl⟩
  · rw [if_neg room, if_neg room, enqueue_full kind' (by rw [queue]; exact Nat.le_of_not_lt room), slot_post, queue]
    exact ⟨rfl, rfl⟩

theorem judgedPost_logged (events : m.events = s.events) (clock : m.clock = s.clock) :
    (judgedPost r x m).events = (judgedPost r x s).events ∧ (judgedPost r x m).clock = (judgedPost r x s).clock := by
  unfold judgedPost
  split
  · exact ⟨events, clock⟩
  · rw [post_clock, post_clock]
    exact ⟨post_events_congr _ _ _ _ _ events clock, clock⟩

theorem lostPost_logged {n : Nat} (events : m.events = s.events) (clock : m.clock = s.clock) :
    (lostPost i n m).events = (lostPost i n s).events ∧ (lostPost i n m).clock = (lostPost i n s).clock := by
  unfold lostPost
  split
  · exact ⟨events, clock⟩
  · rw [post_clock, post_clock]
    exact ⟨post_events_congr _ _ _ _ _ events clock, clock⟩

theorem lostPost_clock (n : Nat) (s : State) : (lostPost i n s).clock = s.clock := by
  unfold lostPost
  split
  · rfl
  · rw [post_clock]

/-- The events of an admission whose record has no old slot (R71, R77). -/
theorem welcomed_events_alone (moved : Moved i r x s m) (trusted : x.standing ≠ .barred)
    (kind : (s.slot i).kind = .extension) (former : x.admittedSlot = none) : (welcomed i r x stamp m).events =
      (post .signedOn (some i) none (some r) (byte x.cls)
        (lostPost i (s.slot i).txQueue.length (judgedPost r x s))).events := by
  have alone := moved.alone former
  have before := judgedPost_logged (r := r) (x := x) (s := s) (m := m) (by rw [alone]; rfl) (by rw [alone]; rfl)
  have counts := counted_rest (stamp := stamp) moved trusted
  have judged : (counted i r x stamp m).events = (judgedPost r x s).events := by
    rw [counts]
    exact before.1
  have clock : (counted i r x stamp m).clock = (judgedPost r x s).clock := by
    rw [(counted_spares moved trusted).clock, moved.spares.clock, (judgedPost_spares s).clock]
  obtain ⟨events, clock'⟩ := lostPost_logged (i := i) (n := (s.slot i).txQueue.length) judged clock
  rw [welcomed, requestFunction_events]
  refine post_events_congr _ _ _ _ _ ((heard_queue moved trusted kind).2.trans events) ?_
  rw [heard, enqueue_clock, clock, lostPost_clock]

theorem heard_spares (moved : Moved i r x s m) (trusted : x.standing ≠ .barred) : Spares s (heard i r x stamp m) :=
  moved.spares.trans ((counted_spares moved trusted).trans (enqueue_spares ..))

theorem welcomed_spares (moved : Moved i r x s m) (trusted : x.standing ≠ .barred) : Spares s (welcomed i r x stamp m) :=
  (heard_spares moved trusted).trans ((post_spares ..).trans (requestFunction_spares ..))

theorem welcomed_tone (moved : Moved i r x s m) (trusted : x.standing ≠ .barred) (kind : (s.slot i).kind = .extension)
    {d : ToneId} {y : ToneDescriptor} (entry : s.tones.functions.admission = some d)
    (loaded : s.tones.descriptors[d] = some y) (quiet : (s.slot i).tone = none) :
    ((welcomed i r x stamp m).slot i).tone = some (startTone d y) := by
  let posted := post .signedOn (some i) none (some r) (byte x.cls) (heard i r x stamp m)
  have tones : posted.tones = s.tones := ((heard_spares moved trusted).trans (post_spares ..)).tones
  have unbound := moved.slot
  have slot : posted.slot i = { (counted i r x stamp m).slot i with txQueue := ((heard i r x stamp m).slot i).txQueue } :=
    (slot_post ..).trans (enqueue_slot_self _)
  have kept : (posted.slot i).kind = .extension ∧ (posted.slot i).tone = none := by
    rw [slot, counted_slot_self moved trusted, unbound]
    exact ⟨kind, quiet⟩
  obtain ⟨kind', quiet'⟩ := kept
  have asked := requestFunction_asked (f := .admission) (i := i) (s := posted) (d := d) (x := y)
    (by rw [tones]; exact entry) (by rw [tones]; exact loaded) kind'
  have acts : welcomed i r x stamp m = posted.withSlot i ((posted.slot i).requestTone d y).2 := asked
  rw [acts, slot_withSlot_self, requestTone_idle quiet']

theorem judgeVerify_admits {answer : BitVec 32} (held : s.record r = some x)
    (verifying : (s.slot i).admission = .verifying) (pending : x.pendingSlot = some i)
    (inBand : (s.classRecord x.cls).inBand = true) : judgeVerify i r answer answer s = succeed i r s := by
  rw [judgeVerify, held]
  dsimp only
  rw [if_pos ⟨verifying, pending⟩, if_neg (not_not_intro rfl), if_neg (by rw [inBand]; decide)]

end

/-- Settles O32: the old slot signs off, then the record's new admission is written, counted and announced. -/
theorem verifySuccessAdmits : Obligations.VerifySuccessAdmits := by
  intro i r x op answer s running flown complete job right kind verifying held pending inBand trusted apart bound
  let u := s.withEngine (s.engine.rested op)
  let m := movedFrom x.admittedSlot (signOnEnded i r u)
  have moved : Moved i r x u m := movedFrom_moved (s := u) held apart bound
  have acts : exec .verifyDelivery s = .next (welcomed i r x s.clock.reading m) := by
    rw [exec_verifyDelivery, whileRunning_running running, verifyDelivery_eq flown complete job, right,
      judgeVerify_admits (s := u) held verifying pending inBand, succeed_welcomed (s := u) held trusted moved]
    rfl
  have spares : Spares u (welcomed i r x s.clock.reading m) := welcomed_spares moved trusted
  have rest := welcomed_rest (stamp := s.clock.reading) moved trusted
  have slot := welcomed_slot_self (stamp := s.clock.reading) moved trusted
  have engine : (welcomed i r x s.clock.reading m).engine = m.engine := by rw [rest]
  have vacant : m.engine.Vacant := moved.vacant ⟨rfl, rfl⟩
  have heardQueue := (heard_queue (stamp := s.clock.reading) moved trusted kind).1
  refine ⟨_, acts, ?_, by rw [slot]; rfl, by rw [slot]; rfl, by rw [slot]; rfl, by rw [slot]; rfl, by rw [slot]; rfl,
    by rw [slot], ?_, ?_, fun former => ?_, fun shown fits => ?_, fun d y entry loaded quiet => ?_, fun q other => ?_,
    fun a former admitted => ?_, fun j other elsewhere => ?_, fun former => ⟨?_, ?_, fun j other => ?_⟩, ?_, ?_, ?_⟩
  · have visitors : (welcomed i r x s.clock.reading m).visitors = s.visitors := by
      rw [rest]
      exact moved.visitors
    have same := spares.eq
    rw [visitors] at same
    exact same
  · rw [welcomed_record moved trusted, if_pos rfl]
    rfl
  · rw [slot, heardQueue]
    have privacy : m.classRecord x.cls = s.classRecord x.cls :=
      congrArg (fun classes : Vector ClassRecord 8 => classes[x.cls]) moved.spares.classes
    rw [Record.welcome, privacy]
    rfl
  · have judged := judgedPost_logged (r := r) (x := x) (m := u) (s := s) rfl rfl
    obtain ⟨events, clock⟩ := lostPost_logged (i := i) (n := (s.slot i).txQueue.length) judged.1 judged.2
    exact (welcomed_events_alone moved trusted kind former).trans (post_events_congr _ _ _ _ _ events clock)
  · rw [welcomed, requestFunction_events] at fits ⊢
    exact (heard_spares moved trusted).post_last shown fits
  · exact welcomed_tone moved trusted kind entry loaded quiet
  · rw [welcomed_record moved trusted, if_neg other.symm]
    exact moved.others q other
  · have other : a ≠ i := fun same => apart (same ▸ former)
    rw [welcomed_slot_other moved trusted other]
    exact moved.former a former admitted
  · rw [welcomed_slot_other moved trusted other]
    exact moved.admissions j other elsewhere
  · rw [rest]
    have alone := congrArg State.contexts (moved.alone former)
    exact alone
  · rw [rest]
    have alone := congrArg State.records (moved.alone former)
    exact alone
  · rw [welcomed_slot_other moved trusted other, moved.alone former, signOnEnded_slot, if_neg other.symm]
    rfl
  · rw [engine]
    exact vacant.1
  · rw [engine]
    exact vacant.2
  · exact spares.nonce

end Sys2Proof.Machine
end

section
/-! PROOFS. The recomputation of the in-band flags. -/

namespace Sys2Proof.Machine

open Sys2Proof.Safety

/-! ### What a recomputation may change -/

/-- What a sweep or a restore leaves of a slot record. -/
structure Slot.Readmits (r t : Slot) : Prop where
  rest : t = { r with
    admission := t.admission, boundIndex := t.boundIndex, visitor := t.visitor, number := t.number
    admissionClass := t.admissionClass, boundContext := t.boundContext, partners := t.partners, txQueue := t.txQueue
    startDue := t.startDue, tone := t.tone, pendingTone := t.pendingTone }
  cls : t.admissionClass = r.admissionClass ∨ t.admissionClass = none

/-- The BAND-CHANGE events among some. -/
def bandChanges (events : List Event) : List Event := events.filter fun e => e.kind == .bandChange

/-- From `s` to `t` a recomputation acts, which posts the BAND-CHANGE events `changes`. -/
structure Rebands (changes : List Event) (s t : State) : Prop where
  rest : t = { s with
    classes := t.classes, slots := t.slots, directory := t.directory, visitors := t.visitors, engine := t.engine
    contexts := t.contexts, events := t.events, records := t.records }
  nonce : t.engine.nonce = s.engine.nonce
  mask : t.events.mask = s.events.mask
  overflow : t.events.overflow = false → s.events.overflow = false
  posted : ∃ posted, t.events.queue = s.events.queue ++ posted ∧
    (s.events.mask.getLsbD 9 = true → t.events.overflow = false → bandChanges posted = changes)
  slot : ∀ i, (s.slot i).Readmits (t.slot i)
  context : ∀ c y, t.context c = some y → ∃ x, s.context c = some x ∧ x.Follows y

theorem Slot.Readmits.refl (r : Slot) : r.Readmits r := ⟨rfl, .inl rfl⟩

theorem Slot.Readmits.trans {r t u : Slot} (a : r.Readmits t) (b : t.Readmits u) : r.Readmits u := by
  refine ⟨?_, b.cls.elim (fun same => a.cls.imp same.trans same.trans) .inr⟩
  rw [b.rest, a.rest]

theorem Slot.Follows.readmits {r t : Slot} (follows : r.Follows t) : r.Readmits t := by
  refine ⟨?_, .inl ?_⟩
  · rw [follows.rest]
  · rw [follows.rest]

theorem Slot.Unbound.readmits {r t : Slot} (unbound : r.Unbound t) : r.Readmits t := by
  refine ⟨?_, .inl ?_⟩
  · rw [unbound]
  · rw [unbound]

namespace Rebands

theorem of_tables {s t : State} (same : t = { s with
    classes := t.classes, slots := t.slots, directory := t.directory, visitors := t.visitors, records := t.records })
    (slot : ∀ i, (s.slot i).Readmits (t.slot i)) : Rebands [] s t := by
  have contexts : t.contexts = s.contexts := by rw [same]
  have engine : t.engine = s.engine := by rw [same]
  have events : t.events = s.events := by rw [same]
  refine ⟨?_, by rw [engine], by rw [events], by rw [events]; exact id, ⟨[], by rw [events, List.append_nil], fun _ _ => rfl⟩,
    slot, fun c y held => ⟨y, ?_, .refl y⟩⟩
  · rw [same]
  · rw [State.context, contexts] at held
    exact held

theorem refl (s : State) : Rebands [] s s := of_tables rfl fun _ => .refl _

theorem trans {a b : List Event} {s t u : State} (first : Rebands a s t) (second : Rebands b t u) :
    Rebands (a ++ b) s u := by
  obtain ⟨posted, queue, changes⟩ := first.posted
  obtain ⟨more, queue', changes'⟩ := second.posted
  refine ⟨?_, second.nonce.trans first.nonce, second.mask.trans first.mask, fun fits => first.overflow (second.overflow fits),
    ⟨posted ++ more, by rw [queue', queue, List.append_assoc], fun shown fits => ?_⟩,
    fun i => (first.slot i).trans (second.slot i), fun c z held => ?_⟩
  · rw [second.rest, first.rest]
  · rw [bandChanges, List.filter_append]
    exact congrArg₂ _ (changes shown (second.overflow fits)) (changes' (first.mask ▸ shown) fits)
  · obtain ⟨y, held, follows⟩ := second.context c z held
    obtain ⟨x, held, follows'⟩ := first.context c y held
    exact ⟨x, held, follows'.trans follows⟩

/-- A quiet step after another. -/
theorem quietly {a : List Event} {s t u : State} (first : Rebands a s t) (second : Rebands [] t u) : Rebands a s u :=
  List.append_nil a ▸ first.trans second

theorem forEach {α : Type} {f : α → State → State} (each : ∀ x s, Rebands [] s (f x s)) (xs : List α) (s : State) :
    Rebands [] s (forEach xs f s) :=
  forEach_keeps (P := Rebands [] s) (fun x t sofar => sofar.quietly (each x t)) xs s (refl s)

theorem clock {a : List Event} {s t : State} (moves : Rebands a s t) : t.clock = s.clock := by rw [moves.rest]

end Rebands

section
variable (s : State)

theorem post_overflow {kind : EventKind} {slot : Option SlotId} {context : Option ContextId} {index : Option RecordId}
    {detail : Byte} (fits : (post kind slot context index detail s).events.overflow = false) :
    s.events.overflow = false := by
  obtain ⟨-, same⟩ | ⟨-, -, joined⟩ | ⟨-, -, marked⟩ := post_cases kind slot context index detail s
  · rw [same] at fits
    exact fits
  · rw [joined] at fits
    exact fits
  · rw [marked] at fits
    exact absurd fits nofun

theorem post_rebands {kind : EventKind} (slot : Option SlotId) (context : Option ContextId) (index : Option RecordId)
    (detail : Byte) (other : kind ≠ .bandChange) : Rebands [] s (post kind slot context index detail s) := by
  obtain ⟨posted, queue, own⟩ := post_queue kind slot context index detail s
  refine ⟨?_, by rw [post_engine], post_mask .., post_overflow s, ⟨posted, queue, fun _ _ => ?_⟩, fun i => ?_,
    fun c y held => ⟨y, by rw [← held, context_post], .refl y⟩⟩
  · rw [post_eq]
  · obtain rfl | rfl := own
    · rfl
    · exact List.filter_eq_nil_iff.mpr (by simpa using other)
  · rw [slot_post]
    exact .refl _

theorem onSlot_rebands {i : SlotId} {f : Slot → Slot} (readmits : (s.slot i).Readmits (f (s.slot i))) :
    Rebands [] s (onSlot i f s) := by
  refine .of_tables rfl fun j => ?_
  rw [slot_onSlot]
  split
  next same =>
    subst same
    exact readmits
  · exact .refl _

theorem enqueue_rebands (i : SlotId) (m : HandsetMessage) : Rebands [] s (enqueue i m s) := by
  obtain ⟨-, same⟩ | ⟨-, -, joined⟩ | ⟨-, -, lost⟩ := enqueue_cases i m s
  · rw [same]
    exact .refl s
  · exact joined ▸ onSlot_rebands s ⟨rfl, .inl rfl⟩
  · exact lost ▸ post_rebands s _ _ _ _ nofun

theorem requestFunction_rebands (f : ToneFunction) (i : SlotId) : Rebands [] s (requestFunction f i s) := by
  obtain same | ⟨d, x, -, -, -, asked⟩ := requestFunction_cases f i s
  · rw [same]
    exact .refl s
  · exact asked ▸ onSlot_rebands s (f := fun _ => ((s.slot i).requestTone d x).2) (requestTone_follows ..).readmits

theorem enqueueAdmitted_rebands (i : SlotId) : Rebands [] s (enqueueAdmitted i s) := by
  unfold enqueueAdmitted
  split
  · exact enqueue_rebands s i _
  · exact .refl s

/-! ### The calls of a slot signed off -/

theorem freeContext_overflow {c : ContextId} (fits : (freeContext c s).events.overflow = false) :
    s.events.overflow = false := by
  unfold freeContext at fits
  split at fits
  · exact fits
  next x _ =>
    have freed : (recordFree c x s).events.overflow = false := by
      have told : (privacyOff x (recordFree c x s)).events.overflow = false := fits
      unfold privacyOff at told
      split at told
      · exact (enqueue_rebands _ _ _).overflow ((requestFunction_rebands _ _ _).overflow told)
      · exact told
    have stored := post_overflow _ freed
    rw [storeRecord_events] at stored
    exact stored

theorem closeContext_overflow {c : ContextId} {cause : CloseCause}
    (fits : (closeContext c cause s).events.overflow = false) : s.events.overflow = false := by
  obtain ⟨-, same⟩ | ⟨x, -, -, ⟨-, -, clears⟩ | ⟨-, frees⟩⟩ := closeContext_cases c cause s
  · rw [same] at fits
    exact fits
  · rw [clears] at fits
    exact fits
  · rw [frees] at fits
    have before := freeContext_overflow
      ((withdraw (Job.isDeriveOf c) s).withContext c (some (x.haltFor cause))) fits
    exact before

theorem partCalls_overflow {i : SlotId} (fits : (partCalls i s).events.overflow = false) : s.events.overflow = false := by
  have marked := markGone_rest (s.slot i).partners s
  have before : (forEach (s.slot i).partners markGone s).events = s.events := by rw [marked]
  rw [← before]
  refine forEach_keeps (P := fun t => t.events.overflow = false →
    (forEach (s.slot i).partners markGone s).events.overflow = false)
    (fun c t sofar fits => sofar (closeContext_overflow t fits)) (s.slot i).partners _ id fits

theorem partCalls_rebands (i : SlotId) : Rebands [] s (partCalls i s) := by
  have closes := partCalls_closes i s
  obtain ⟨posted, queue, kinds⟩ := closes.posted
  refine ⟨?_, by rw [closes.engine], closes.mask, partCalls_overflow s, ⟨posted, queue, fun _ _ => ?_⟩,
    fun j => (closes.slot j).readmits, closes.context⟩
  · rw [closes.rest]
  · refine List.filter_eq_nil_iff.mpr fun e member change => ?_
    obtain kind | kind := kinds e member <;> rw [kind] at change <;> exact absurd change (by decide)

theorem dropUnbegun_readmits (r : Slot) : r.Readmits r.dropUnbegun := by
  rw [dropUnbegun_rest]
  exact ⟨rfl, .inl rfl⟩

theorem signOffSlot_rebands (cause : SignOffCause) (i : SlotId) : Rebands [] s (signOffSlot cause i s) := by
  cases admitted : (s.slot i).isAdmitted with
  | false =>
    rw [signOffSlot_not_admitted admitted]
    exact .refl s
  | true =>
    have released (u : State) : Rebands [] u (releaseAdmission (s.slot i) u) := by
      rw [releaseAdmission_eq]
      exact .of_tables rfl fun _ => .refl _
    have quieted : Rebands [] s (quietSlot i (partCalls i s)) :=
      ((partCalls_rebands s i).quietly (onSlot_rebands _ (i := i) (f := Slot.dropTones) ⟨rfl, .inl rfl⟩)).quietly
        (onSlot_rebands _ (dropUnbegun_readmits _))
    rw [signOffSlot_admitted admitted]
    exact ((quieted.quietly (released _)).quietly (onSlot_rebands _ (f := Slot.lockOut) ⟨rfl, .inr rfl⟩)).quietly
      (post_rebands _ _ _ _ _ nofun)

theorem sweepSlot_rebands (k : ClassId) (i : SlotId) : Rebands [] s (sweepSlot k i s) := by
  unfold sweepSlot
  dsimp only
  split
  · split
    · exact signOffSlot_rebands s .outOfHours i
    · exact ((onSlot_rebands s (f := fun r => { r with admission := .expiring }) ⟨rfl, .inl rfl⟩).quietly
        (enqueue_rebands ..)).quietly (requestFunction_rebands ..)
  · exact .refl s

theorem restoreSlot_rebands (k : ClassId) (i : SlotId) : Rebands [] s (restoreSlot k i s) := by
  unfold restoreSlot
  dsimp only
  split
  · exact (onSlot_rebands s (f := fun r => { r with admission := .admitted }) ⟨rfl, .inl rfl⟩).quietly
      (enqueueAdmitted_rebands ..)
  · exact .refl s

/-! ### The BAND-CHANGE of a class -/

/-- The BAND-CHANGE of class `k`, when its flag changes (R56, R171). -/
def bandEvent (k : ClassId) (s : State) : Option Event :=
  if bandNow k s = (s.classRecord k).inBand then none
  else some
    { kind := .bandChange, stamp := s.clock.reading, slot := none, context := none, index := none
      detail := byte (k.val + if bandNow k s then 0x80 else 0) }

theorem bandTurned_rebands {k : ClassId} (changed : bandNow k s ≠ (s.classRecord k).inBand) :
    Rebands (bandEvent k s).toList s (bandTurned k s) := by
  let written := s.withClass k { s.classRecord k with inBand := bandNow k s }
  have queued := post_cases .bandChange none none none (byte (k.val + if bandNow k s then 0x80 else 0)) written
  rw [bandEvent, if_neg changed]
  refine ⟨?_, ?_, post_mask .., post_overflow written, ?_, fun i => ?_, fun c y held => ⟨y, ?_, .refl y⟩⟩
  · rw [bandTurned, post_eq]
    rfl
  · rw [bandTurned, post_engine]
    rfl
  · obtain ⟨hidden, same⟩ | ⟨-, -, joined⟩ | ⟨-, -, marked⟩ := queued
    · exact ⟨[], by rw [bandTurned, same, List.append_nil]; rfl, fun shown _ => absurd (shown.symm.trans hidden) nofun⟩
    · exact ⟨_, by rw [bandTurned, joined]; rfl, fun _ _ => rfl⟩
    · refine ⟨[], by rw [bandTurned, marked, List.append_nil]; rfl, fun _ fits => ?_⟩
      rw [bandTurned, marked] at fits
      exact absurd fits nofun
  · rw [bandTurned, slot_post]
    exact .refl _
  · rw [bandTurned, context_post] at held
    exact held

theorem recomputeBand_rebands (k : ClassId) : Rebands (bandEvent k s).toList s (recomputeBand k s) := by
  by_cases same : bandNow k s = (s.classRecord k).inBand
  · rw [recomputeBand_same same, bandEvent, if_pos same]
    exact .refl s
  · have turned := bandTurned_rebands s same
    cases now : bandNow k s <;> cases flag : (s.classRecord k).inBand
    · exact absurd (now.trans flag.symm) same
    · rw [recomputeBand_out flag now]
      exact turned.quietly (.forEach (fun i t => sweepSlot_rebands t k i) _ _)
    · rw [recomputeBand_in flag now]
      exact turned.quietly (.forEach (fun i t => restoreSlot_rebands t k i) _ _)
    · exact absurd (now.trans flag.symm) same

end

/-! ### Class records -/

section
variable {s t : State} {k j : ClassId}

/-- Class `k`'s record with its flag as the clock gives it (R56). -/
def bandedClass (k : ClassId) (s : State) : ClassRecord := { s.classRecord k with inBand := bandNow k s }

theorem bandTurned_classRecord (k j : ClassId) (s : State) :
    (bandTurned k s).classRecord j = if k = j then bandedClass k s else s.classRecord j := by
  rw [bandTurned, classRecord_post, classRecord_withClass]
  rfl

theorem Spares.classRecord (spares : Spares s t) (k : ClassId) : t.classRecord k = s.classRecord k :=
  congrArg (fun classes : Vector ClassRecord 8 => classes[k]) spares.classes

theorem recomputeBand_classRecord (k j : ClassId) (s : State) :
    (recomputeBand k s).classRecord j = if k = j then bandedClass k s else s.classRecord j := by
  by_cases same : bandNow k s = (s.classRecord k).inBand
  · rw [recomputeBand_same same, bandedClass, same]
    split
    next here => rw [here]
    · rfl
  · rw [← bandTurned_classRecord]
    cases now : bandNow k s <;> cases flag : (s.classRecord k).inBand
    · exact absurd (now.trans flag.symm) same
    · rw [recomputeBand_out flag now]
      exact (Spares.forEach (fun i t => sweepSlot_spares t k i) _ _).classRecord j
    · rw [recomputeBand_in flag now]
      exact (Spares.forEach (fun i t => restoreSlot_spares t k i) _ _).classRecord j
    · exact absurd (now.trans flag.symm) same

theorem bandNow_congr (cls : t.classRecord k = s.classRecord k) (clock : t.clock = s.clock) : bandNow k t = bandNow k s := by
  rw [bandNow, bandNow, cls, clock]

theorem bandEvent_congr (cls : t.classRecord k = s.classRecord k) (clock : t.clock = s.clock) :
    bandEvent k t = bandEvent k s := by
  rw [bandEvent, bandEvent, bandNow_congr cls clock, cls, clock]

theorem recomputeBand_clock (k : ClassId) (s : State) : (recomputeBand k s).clock = s.clock :=
  (recomputeBand_rebands s k).clock

theorem recomputeBand_other (other : k ≠ j) : (recomputeBand k s).classRecord j = s.classRecord j := by
  rw [recomputeBand_classRecord, if_neg other]

theorem forEach_recomputeBand_classRecord {xs : List ClassId} (nodup : xs.Nodup) (s : State) (j : ClassId) :
    (forEach xs recomputeBand s).classRecord j = if j ∈ xs then bandedClass j s else s.classRecord j := by
  induction xs generalizing s with
  | nil => exact (if_neg List.not_mem_nil).symm
  | cons k rest ih =>
    obtain ⟨absent, nodup'⟩ := List.nodup_cons.mp nodup
    rw [forEach_cons, ih nodup', recomputeBand_classRecord]
    by_cases same : k = j
    · subst same
      rw [if_neg absent, if_pos rfl, if_pos List.mem_cons_self]
    · have banded : bandedClass j (recomputeBand k s) = bandedClass j s := by
        rw [bandedClass, bandedClass, bandNow_congr (recomputeBand_other same) (recomputeBand_clock k s),
          recomputeBand_other same]
      rw [if_neg same, banded]
      refine if_congr ?_ rfl rfl
      rw [List.mem_cons]
      exact ⟨.inr, fun member => member.resolve_left fun here => same here.symm⟩

/-- The recomputations post the BAND-CHANGE events of their classes in order (R56). -/
theorem forEach_recomputeBand_rebands {xs : List ClassId} (nodup : xs.Nodup) (s : State) :
    Rebands (xs.filterMap fun k => bandEvent k s) s (forEach xs recomputeBand s) := by
  induction xs generalizing s with
  | nil => exact .refl s
  | cons k rest ih =>
    obtain ⟨absent, nodup'⟩ := List.nodup_cons.mp nodup
    have later : rest.filterMap (fun j => bandEvent j (recomputeBand k s)) = rest.filterMap fun j => bandEvent j s :=
      List.filterMap_congr fun j member =>
        bandEvent_congr (recomputeBand_other fun same => absent (same ▸ member)) (recomputeBand_clock k s)
    have changes : (k :: rest).filterMap (fun j => bandEvent j s) =
        (bandEvent k s).toList ++ rest.filterMap fun j => bandEvent j s := by
      rw [List.filterMap_cons]
      cases bandEvent k s <;> rfl
    rw [forEach_cons, changes, ← later]
    exact (recomputeBand_rebands s k).trans (ih nodup' _)

end

/-! ### Slots -/

section
variable {s : State} {k : ClassId} {i j : SlotId}

/-- A slot that the expiry sweep of class `k` acts on (R58). -/
def Slot.SweptBy (k : ClassId) (r : Slot) : Prop :=
  r.kind = .extension ∧ r.admission = .admitted ∧ r.admissionClass = some k

/-- A slot that the restore of class `k` acts on (R59). -/
def Slot.RestoredBy (k : ClassId) (r : Slot) : Prop :=
  r.kind = .extension ∧ r.admission = .expiring ∧ r.admissionClass = some k

/-- What an expiry sweep of class `k` makes of a slot record (R58). -/
structure Slot.Swept (k : ClassId) (r t : Slot) : Prop where
  spared : ¬r.SweptBy k → r.Unbound t
  ended : r.SweptBy k → 8000 ≤ r.idle → t.admission = .locked ∧ t.admissionClass = none
  warned : r.SweptBy k → r.idle < 8000 → t.admission = .expiring ∧ t.admissionClass = some k ∧
    (r.txQueue.length < 4 → t.txQueue = r.txQueue ++ [{ type := 0x25, body := [4] }])

/-- ADMITTED in class `k` (R46, R63). -/
def welcomeTo (k : ClassId) (privacy : Bool) (r : Slot) : HandsetMessage :=
  { type := 0x22, body := [byte k, if r.visitor = false ∧ privacy = true then 1 else 0] }

/-- What a restore of class `k` makes of a slot record (R59). -/
structure Slot.Restored (k : ClassId) (privacy : Bool) (r t : Slot) : Prop where
  spared : ¬r.RestoredBy k → r.Unbound t
  again : r.RestoredBy k → t.admission = .admitted ∧ t.admissionClass = some k ∧
    (r.txQueue.length < 4 → t.txQueue = r.txQueue ++ [welcomeTo k privacy r])

theorem sweepSlot_spared (spared : ¬(s.slot i).SweptBy k) : sweepSlot k i s = s := if_neg spared

theorem sweepSlot_ended (swept : (s.slot i).SweptBy k) (idle : 8000 ≤ (s.slot i).idle) :
    sweepSlot k i s = signOffSlot .outOfHours i s := (if_pos swept).trans (if_pos idle)

theorem sweepSlot_warned (swept : (s.slot i).SweptBy k) (idle : (s.slot i).idle < 8000) : sweepSlot k i s =
    requestFunction .expiring i (enqueue i (noticeMessage .expiring)
      (onSlot i (fun r => { r with admission := .expiring }) s)) :=
  (if_pos swept).trans (if_neg (Nat.not_le_of_lt idle))

theorem restoreSlot_spared (spared : ¬(s.slot i).RestoredBy k) : restoreSlot k i s = s := if_neg spared

theorem restoreSlot_again (restored : (s.slot i).RestoredBy k) :
    restoreSlot k i s = enqueueAdmitted i (onSlot i (fun r => { r with admission := .admitted }) s) := if_pos restored

theorem sweepSlot_self : (s.slot i).Swept k ((sweepSlot k i s).slot i) where
  spared spared := by
    rw [sweepSlot_spared spared]
    exact rfl
  ended swept idle := by
    have admitted : (s.slot i).isAdmitted = true := (isAdmitted_iff _).mpr (.inl swept.2.1)
    rw [sweepSlot_ended swept idle, signOffSlot_slot_self .outOfHours admitted]
    exact ⟨rfl, rfl⟩
  warned swept idle := by
    obtain ⟨kind, admitted, cls⟩ := swept
    let u := onSlot i (fun r => { r with admission := .expiring }) s
    have here : u.slot i = { s.slot i with admission := .expiring } := slot_withSlot_self ..
    have queued := enqueue_slot_self (s := u) (i := i) (noticeMessage .expiring)
    rw [sweepSlot_warned ⟨kind, admitted, cls⟩ idle, requestFunction_slot_self]
    refine ⟨?_, ?_, fun room => ?_⟩
    · rw [queued, here]
    · rw [queued, here]
      exact cls
    · rw [enqueue_room (s := u) (by rw [here]; exact kind) (by rw [here]; exact room), slot_onSlot, if_pos rfl, here]
      rfl

theorem sweepSlot_other (other : j ≠ i) : (s.slot j).Unbound ((sweepSlot k i s).slot j) := by
  by_cases swept : (s.slot i).SweptBy k
  · obtain idle | idle := Nat.lt_or_ge (s.slot i).idle 8000
    · rw [sweepSlot_warned swept idle, requestFunction_slot_other _ other, enqueue_slot_other _ other, slot_onSlot,
        if_neg other.symm]
      exact rfl
    · rw [sweepSlot_ended swept idle]
      exact slot_signOffSlot_other other
  · rw [sweepSlot_spared swept]
    exact rfl

theorem restoreSlot_self : (s.slot i).Restored k (s.classRecord k).privacy ((restoreSlot k i s).slot i) where
  spared spared := by
    rw [restoreSlot_spared spared]
    exact rfl
  again restored := by
    obtain ⟨kind, expiring, cls⟩ := restored
    let u := onSlot i (fun r => { r with admission := .admitted }) s
    have here : u.slot i = { s.slot i with admission := .admitted } := slot_withSlot_self ..
    have queued (m : HandsetMessage) := enqueue_slot_self (s := u) (i := i) m
    rw [restoreSlot_again ⟨kind, expiring, cls⟩, enqueueAdmitted_eq (s := u) (k := k) (by rw [here]; exact cls)]
    refine ⟨?_, ?_, fun room => ?_⟩
    · rw [queued, here]
    · rw [queued, here]
      exact cls
    · rw [enqueue_room (s := u) (by rw [here]; exact kind) (by rw [here]; exact room), slot_onSlot, if_pos rfl, here,
        admittedMessage_eq]
      rfl

theorem restoreSlot_other (other : j ≠ i) : (s.slot j).Unbound ((restoreSlot k i s).slot j) := by
  by_cases restored : (s.slot i).RestoredBy k
  · rw [restoreSlot_again restored]
    unfold enqueueAdmitted
    split
    · rw [enqueue_slot_other _ other, slot_onSlot, if_neg other.symm]
      exact rfl
    · rw [slot_onSlot, if_neg other.symm]
      exact rfl
  · rw [restoreSlot_spared restored]
    exact rfl

/-- An operation applied to slots in turn acts once on each of them, and takes bindings from the others at most. -/
theorem forEach_slot_unbound {f : SlotId → State → State} (other : ∀ i j (s : State), j ≠ i → (s.slot j).Unbound ((f i s).slot j))
    {xs : List SlotId} (absent : j ∉ xs) (s : State) : (s.slot j).Unbound ((forEach xs f s).slot j) := by
  induction xs generalizing s with
  | nil => exact rfl
  | cons i rest ih =>
    have apart : j ≠ i := fun same => absent (same ▸ List.mem_cons_self)
    have absent' : j ∉ rest := fun member => absent (List.mem_cons_of_mem i member)
    rw [forEach_cons]
    exact (other i j s apart).trans (ih absent' _)

theorem forEach_slot_once {f : SlotId → State → State} (other : ∀ i j (s : State), j ≠ i → (s.slot j).Unbound ((f i s).slot j))
    (spares : ∀ i s, Spares s (f i s)) {xs : List SlotId} (nodup : xs.Nodup) (member : j ∈ xs) (s : State) :
    ∃ u, Spares s u ∧ (s.slot j).Unbound (u.slot j) ∧ ((f j u).slot j).Unbound ((forEach xs f s).slot j) := by
  induction xs generalizing s with
  | nil => exact absurd member List.not_mem_nil
  | cons i rest ih =>
    obtain ⟨absent, nodup'⟩ := List.nodup_cons.mp nodup
    rw [forEach_cons]
    by_cases same : j = i
    · subst same
      exact ⟨s, .refl s, rfl, forEach_slot_unbound other absent _⟩
    · obtain ⟨u, kept, before, after⟩ := ih nodup' ((List.mem_cons.mp member).resolve_left same) (f i s)
      exact ⟨u, (spares i s).trans kept, (other i j s same).trans before, after⟩

end

/-! ### Slots of one class, and of the others -/

section
variable {r r' t t' : Slot} {s : State} {k : ClassId} {i : SlotId}

theorem Slot.Unbound.written (unbound : r.Unbound t) : ∃ b p, t = { r with boundContext := b, partners := p } :=
  ⟨_, _, unbound⟩

theorem Slot.Swept.unbound (swept : r'.Swept k t') (before : r.Unbound r') (after : t'.Unbound t) : r.Swept k t := by
  have spared (out : ¬r'.SweptBy k) : r.Unbound t := before.trans ((swept.spared out).trans after)
  obtain ⟨b, p, rfl⟩ := before.written
  obtain ⟨c, q, rfl⟩ := after.written
  exact ⟨spared, swept.ended, swept.warned⟩

theorem Slot.Restored.unbound {privacy : Bool} (restored : r'.Restored k privacy t') (before : r.Unbound r')
    (after : t'.Unbound t) : r.Restored k privacy t := by
  have spared (out : ¬r'.RestoredBy k) : r.Unbound t := before.trans ((restored.spared out).trans after)
  obtain ⟨b, p, rfl⟩ := before.written
  obtain ⟨c, q, rfl⟩ := after.written
  exact ⟨spared, restored.again⟩

theorem forEach_sweepSlot (k : ClassId) (s : State) (i : SlotId) :
    (s.slot i).Swept k ((forEach slotIds (sweepSlot k) s).slot i) := by
  obtain ⟨u, -, before, after⟩ := forEach_slot_once (fun i j s other => sweepSlot_other (k := k) other)
    (fun i s => sweepSlot_spares s k i) (List.nodup_finRange _) (List.mem_finRange i) s
  exact sweepSlot_self.unbound before after

theorem forEach_restoreSlot (k : ClassId) (s : State) (i : SlotId) :
    (s.slot i).Restored k (s.classRecord k).privacy ((forEach slotIds (restoreSlot k) s).slot i) := by
  obtain ⟨u, spares, before, after⟩ := forEach_slot_once (fun i j s other => restoreSlot_other (k := k) other)
    (fun i s => restoreSlot_spares s k i) (List.nodup_finRange _) (List.mem_finRange i) s
  rw [← spares.classRecord k]
  exact restoreSlot_self.unbound before after

/-- What the recomputation of class `k`, from `x` to the flag `now`, makes of a slot record (R56, R58, R59). -/
structure Slot.Banded (k : ClassId) (x : ClassRecord) (now : Bool) (r t : Slot) : Prop where
  apart : r.admissionClass ≠ some k → r.Unbound t
  left : r.kind = .extension → r.admissionClass = some k → x.inBand = true → now = false →
    t.admission ≠ .admitted ∧ (r.admission = .admitted → (8000 ≤ r.idle → t.admission = .locked) ∧
      (r.idle < 8000 → t.admission = .expiring ∧
        (r.txQueue.length < 4 → t.txQueue = r.txQueue ++ [{ type := 0x25, body := [4] }])))
  back : r.kind = .extension → r.admissionClass = some k → x.inBand = false → now = true → r.admission = .expiring →
    t.admission = .admitted ∧ (r.txQueue.length < 4 → t.txQueue = r.txQueue ++ [welcomeTo k x.privacy r])
  kept : r.kind = .extension → r.admissionClass = some k → x.inBand = now → t.admission = r.admission

theorem Slot.Unbound.banded {x : ClassRecord} (unbound : r.Unbound t) : r.Banded k x x.inBand t where
  apart _ := unbound
  left _ _ inside out := absurd (inside.symm.trans out) nofun
  back _ _ out inside := absurd (out.symm.trans inside) nofun
  kept _ _ _ := by rw [unbound]

theorem Slot.Swept.banded {x : ClassRecord} (swept : r.Swept k t) (inside : x.inBand = true) : r.Banded k x false t where
  apart another := swept.spared fun here => another here.2.2
  left kind cls _ _ := by
    by_cases admitted : r.admission = .admitted
    · have here : r.SweptBy k := ⟨kind, admitted, cls⟩
      refine ⟨?_, fun _ => ⟨fun idle => (swept.ended here idle).1, fun idle => ?_⟩⟩
      · obtain idle | idle := Nat.lt_or_ge r.idle 8000
        · rw [(swept.warned here idle).1]
          nofun
        · rw [(swept.ended here idle).1]
          nofun
      · obtain ⟨expiring, -, queue⟩ := swept.warned here idle
        exact ⟨expiring, queue⟩
    · refine ⟨?_, fun here => absurd here admitted⟩
      rw [swept.spared fun here => admitted here.2.1]
      exact admitted
  back _ _ _ now := absurd now nofun
  kept _ _ same := absurd (inside.symm.trans same) nofun

theorem Slot.Restored.banded {x : ClassRecord} (restored : r.Restored k x.privacy t) (out : x.inBand = false) :
    r.Banded k x true t where
  apart another := restored.spared fun here => another here.2.2
  left _ _ _ now := absurd now nofun
  back kind cls _ _ expiring := by
    obtain ⟨admitted, -, queue⟩ := restored.again ⟨kind, expiring, cls⟩
    exact ⟨admitted, queue⟩
  kept _ _ same := absurd (out.symm.trans same) nofun

theorem recomputeBand_banded (k : ClassId) (s : State) (i : SlotId) :
    (s.slot i).Banded k (s.classRecord k) (bandNow k s) ((recomputeBand k s).slot i) := by
  by_cases same : bandNow k s = (s.classRecord k).inBand
  · rw [recomputeBand_same same, same]
    exact Slot.Unbound.banded rfl
  · have slot : (bandTurned k s).slot i = s.slot i := slot_post ..
    have privacy : ((bandTurned k s).classRecord k).privacy = (s.classRecord k).privacy := by
      rw [bandTurned_classRecord, if_pos rfl]
      rfl
    cases now : bandNow k s <;> cases flag : (s.classRecord k).inBand
    · exact absurd (now.trans flag.symm) same
    · rw [recomputeBand_out flag now, ← slot]
      exact (forEach_sweepSlot k _ i).banded flag
    · have restored := forEach_restoreSlot k (bandTurned k s) i
      rw [slot, privacy] at restored
      rw [recomputeBand_in flag now]
      exact restored.banded flag
    · exact absurd (now.trans flag.symm) same

theorem recomputeBand_apart (apart : (s.slot i).admissionClass ≠ some k) :
    (s.slot i).Unbound ((recomputeBand k s).slot i) := (recomputeBand_banded k s i).apart apart

theorem forEach_recomputeBand_apart {xs : List ClassId} (apart : ∀ k ∈ xs, (s.slot i).admissionClass ≠ some k) :
    (s.slot i).Unbound ((forEach xs recomputeBand s).slot i) := by
  induction xs generalizing s with
  | nil => exact rfl
  | cons k rest ih =>
    have first := recomputeBand_apart (s := s) (apart k List.mem_cons_self)
    rw [forEach_cons]
    refine first.trans (ih fun j member => ?_)
    rw [first]
    exact apart j (List.mem_cons_of_mem k member)

theorem Slot.Banded.unbound {x : ClassRecord} {now : Bool} (banded : r'.Banded k x now t') (before : r.Unbound r')
    (after : t'.Unbound t) : r.Banded k x now t := by
  have apart (another : r'.admissionClass ≠ some k) : r.Unbound t := before.trans ((banded.apart another).trans after)
  obtain ⟨b, p, rfl⟩ := before.written
  obtain ⟨c, q, rfl⟩ := after.written
  exact ⟨apart, banded.left, banded.back, banded.kept⟩

theorem forEach_recomputeBand_banded {xs : List ClassId} (nodup : xs.Nodup) (member : k ∈ xs)
    (cls : (s.slot i).admissionClass = some k) :
    (s.slot i).Banded k (s.classRecord k) (bandNow k s) ((forEach xs recomputeBand s).slot i) := by
  induction xs generalizing s with
  | nil => exact absurd member List.not_mem_nil
  | cons j rest ih =>
    obtain ⟨absent, nodup'⟩ := List.nodup_cons.mp nodup
    rw [forEach_cons]
    by_cases same : j = k
    · subst same
      refine (recomputeBand_banded j s i).unbound rfl (forEach_recomputeBand_apart fun l later here => ?_)
      have other : l ≠ j := fun same => absent (same ▸ later)
      obtain kept | gone := ((recomputeBand_rebands s j).slot i).cls
      · exact other (Option.some.inj (here.symm.trans (kept.trans cls)))
      · exact absurd (here.symm.trans gone) nofun
    · have first : (s.slot i).Unbound ((recomputeBand j s).slot i) :=
        recomputeBand_apart fun here => same (Option.some.inj (here.symm.trans cls))
      have cls' : ((recomputeBand j s).slot i).admissionClass = some k := by
        rw [first]
        exact cls
      have record : (recomputeBand j s).classRecord k = s.classRecord k := recomputeBand_other same
      have later := ih nodup' ((List.mem_cons.mp member).resolve_left fun here => same here.symm) cls'
      rw [record, bandNow_congr record (recomputeBand_clock j s)] at later
      exact later.unbound first rfl

end

/-! ### The statements of a recomputation -/

section
variable {s t u : State} {k : ClassId} {changes : List Event}

/-- What the sweep or the restore of class `k` makes of its slots (R58, R59). -/
def ClassSwept (s t : State) (k : ClassId) : Prop :=
  ((s.classRecord k).inBand = true → (t.classRecord k).inBand = false →
    ∀ i, (t.slot i).kind = .extension → (t.slot i).admissionClass = some k → (t.slot i).admission ≠ .admitted) ∧
  ∀ i, (s.slot i).kind = .extension → (s.slot i).admissionClass = some k →
    ((s.classRecord k).inBand = true → (t.classRecord k).inBand = false → (s.slot i).admission = .admitted →
      (8000 ≤ (s.slot i).idle → (t.slot i).admission = .locked) ∧
      ((s.slot i).idle < 8000 → (t.slot i).admission = .expiring ∧
        ((s.slot i).txQueue.length < 4 →
          (t.slot i).txQueue = (s.slot i).txQueue ++ [{ type := 0x25, body := [4] }]))) ∧
    ((s.classRecord k).inBand = false → (t.classRecord k).inBand = true → (s.slot i).admission = .expiring →
      (t.slot i).admission = .admitted ∧
        ((s.slot i).txQueue.length < 4 →
          (t.slot i).txQueue = (s.slot i).txQueue ++ [welcomeTo k (t.classRecord k).privacy (s.slot i)])) ∧
    ((s.classRecord k).inBand = (t.classRecord k).inBand → (t.slot i).admission = (s.slot i).admission)

theorem classSwept_of_banded {x : ClassRecord} (slots : ∀ i, (s.slot i).Readmits (t.slot i))
    (inBand : x.inBand = (s.classRecord k).inBand) (privacy : x.privacy = (t.classRecord k).privacy)
    (banded : ∀ i, (s.slot i).admissionClass = some k →
      (s.slot i).Banded k x (t.classRecord k).inBand (t.slot i)) : ClassSwept s t k := by
  rw [ClassSwept, ← inBand, ← privacy]
  refine ⟨fun inside out i kind cls => ?_, fun i kind cls => ⟨fun inside out admitted => ?_, fun out inside expiring => ?_,
    fun same => (banded i cls).kept kind cls same⟩⟩
  · have kind' : (s.slot i).kind = .extension := by
      rw [(slots i).rest] at kind
      exact kind
    have cls' : (s.slot i).admissionClass = some k := by
      obtain kept | gone := (slots i).cls
      · exact kept.symm.trans cls
      · exact absurd (gone.symm.trans cls) nofun
    exact ((banded i cls').left kind' cls' inside out).1
  · exact ((banded i cls).left kind cls inside out).2 admitted
  · exact (banded i cls).back kind cls out inside expiring

/-- What a recomputation from `s` to `t` changes and posts (R56). -/
def BandsAlone (s t : State) : Prop :=
  t = { s with
    clock := t.clock, classes := t.classes, slots := t.slots, directory := t.directory, visitors := t.visitors
    engine := t.engine, contexts := t.contexts, events := t.events, records := t.records } ∧
  t.engine.nonce = s.engine.nonce ∧ t.events.mask = s.events.mask ∧
  (∃ posted, t.events.queue = s.events.queue ++ posted ∧
    (s.events.mask.getLsbD 9 = true → t.events.overflow = false →
      posted.filter (fun e => e.kind == .bandChange) = (List.finRange 8).filterMap fun k =>
        if (s.classRecord k).inBand = (t.classRecord k).inBand then none
        else some
          { kind := .bandChange, stamp := t.clock.reading, slot := none, context := none, index := none
            detail := byte (k.val + if (t.classRecord k).inBand then 0x80 else 0) })) ∧
  (∀ i, (t.slot i).idle = (s.slot i).idle ∧ (t.slot i).filtered = (s.slot i).filtered ∧
    (t.slot i).candidate = (s.slot i).candidate ∧ (t.slot i).persistence = (s.slot i).persistence ∧
    (t.slot i).responseTimer = (s.slot i).responseTimer ∧ (t.slot i).refusalHold = (s.slot i).refusalHold ∧
    (t.slot i).garbled = (s.slot i).garbled ∧ (t.slot i).assembler = (s.slot i).assembler) ∧
  (∀ c y, t.context c = some y → ∃ x, s.context c = some x ∧ y.elapsed = x.elapsed ∧
    y.rekeyElapsed = x.rekeyElapsed ∧ y.offset = x.offset ∧
    (y.phase = x.phase → y.descrambler = x.descrambler ∧ y.scrambler = x.scrambler))

/-- The BAND-CHANGE of class `k`, whose flag was `before` and is as in `t`. -/
def flagEvent (before : Bool) (t : State) (k : ClassId) : Option Event :=
  if before = (t.classRecord k).inBand then none
  else some
    { kind := .bandChange, stamp := t.clock.reading, slot := none, context := none, index := none
      detail := byte (k.val + if (t.classRecord k).inBand then 0x80 else 0) }

theorem flagEvent_eq (now : (t.classRecord k).inBand = bandNow k u) (clock : t.clock = u.clock) :
    flagEvent (u.classRecord k).inBand t k = bandEvent k u := by
  rw [flagEvent, bandEvent, now, clock]
  exact if_congr eq_comm rfl rfl

/-- A recomputation after the clock has been set or a class has been written. -/
theorem bandsAlone_of_rebands (set : u = { s with clock := u.clock, classes := u.classes }) (moves : Rebands changes u t)
    (told : changes = (List.finRange 8).filterMap fun k => flagEvent (s.classRecord k).inBand t k) : BandsAlone s t := by
  have slots (i : SlotId) : u.slot i = s.slot i := by rw [set]; rfl
  have contexts (c : ContextId) : u.context c = s.context c := by rw [set]; rfl
  have events : u.events = s.events := by rw [set]
  have engine : u.engine = s.engine := by rw [set]
  obtain ⟨posted, queue, changed⟩ := moves.posted
  refine ⟨?_, by rw [moves.nonce, engine], by rw [moves.mask, events], ⟨posted, by rw [queue, events], fun shown fits => ?_⟩,
    fun i => ?_, fun c y held => ?_⟩
  · rw [moves.rest, set]
  · exact (changed (events ▸ shown) fits).trans told
  · rw [← slots i, (moves.slot i).rest]
    exact ⟨rfl, rfl, rfl, rfl, rfl, rfl, rfl, rfl⟩
  · obtain ⟨x, held', follows⟩ := moves.context c y held
    exact ⟨x, (contexts c).symm.trans held', follows.elapsed, follows.rekeyElapsed, follows.offset, follows.same⟩

/-- Every class recomputed, after the clock has been set (R56). -/
theorem recomputeBands_alone (set : u = { s with clock := u.clock }) :
    BandsAlone s (recomputeBands u) ∧ (recomputeBands u).clock = u.clock ∧
      ∀ k, ClassSwept s (recomputeBands u) k ∧ (recomputeBands u).classRecord k = bandedClass k u := by
  have nodup : (List.finRange 8).Nodup := List.nodup_finRange 8
  have moves : Rebands ((List.finRange 8).filterMap fun k => bandEvent k u) u (recomputeBands u) :=
    forEach_recomputeBand_rebands nodup u
  have record (k : ClassId) : (recomputeBands u).classRecord k = bandedClass k u :=
    (forEach_recomputeBand_classRecord nodup u k).trans (if_pos (List.mem_finRange k))
  have before (k : ClassId) : u.classRecord k = s.classRecord k := by rw [set]; rfl
  have slots (i : SlotId) : u.slot i = s.slot i := by rw [set]; rfl
  refine ⟨bandsAlone_of_rebands ?_ moves ?_, ?_, fun k => ⟨?_, record k⟩⟩
  · rw [set]
  · refine List.filterMap_congr fun k _ => ?_
    rw [← before k]
    exact (flagEvent_eq (by rw [record k]; rfl) moves.clock).symm
  · exact moves.clock
  · have privacy : (u.classRecord k).privacy = ((recomputeBands u).classRecord k).privacy :=
      (congrArg ClassRecord.privacy (record k)).symm
    have readmits (i : SlotId) : (s.slot i).Readmits ((recomputeBands u).slot i) := by
      rw [← slots i]
      exact moves.slot i
    refine classSwept_of_banded readmits (congrArg ClassRecord.inBand (before k)) privacy fun i cls => ?_
    rw [record k, ← slots i]
    exact forEach_recomputeBand_banded nodup (List.mem_finRange k) ((congrArg _ (slots i)).trans cls)

theorem filterMap_alone {α β : Type} [DecidableEq α] {f : α → Option β} {xs : List α} {a : α} (nodup : xs.Nodup)
    (member : a ∈ xs) (others : ∀ b, b ≠ a → f b = none) : xs.filterMap f = (f a).toList := by
  induction xs with
  | nil => exact absurd member List.not_mem_nil
  | cons b rest ih =>
    obtain ⟨absent, nodup'⟩ := List.nodup_cons.mp nodup
    by_cases same : b = a
    · subst same
      have silent : rest.filterMap f = [] :=
        List.filterMap_eq_nil_iff.mpr fun c later => others c fun here => absent (here ▸ later)
      rw [List.filterMap_cons, silent]
      cases f b <;> rfl
    · rw [List.filterMap_cons, others b same]
      exact ih nodup' ((List.mem_cons.mp member).resolve_left fun here => same here.symm)

/-- Class `k` recomputed, after its record has been written as `x` (R56, R57). -/
theorem recomputeBand_alone {x : ClassRecord} (inBand : x.inBand = (s.classRecord k).inBand)
    (set : u = s.withClass k x) : BandsAlone s (recomputeBand k u) ∧ (recomputeBand k u).clock = s.clock ∧
      ClassSwept s (recomputeBand k u) k ∧
      (recomputeBand k u).classRecord k =
        { x with inBand := inBandAt x.bandStart x.bandEnd (minuteOfDay s.clock.reading) } ∧
      (∀ j, j ≠ k → (recomputeBand k u).classRecord j = s.classRecord j) := by
  have moves := recomputeBand_rebands u k
  have written : u.classRecord k = x := by rw [set, classRecord_withClass, if_pos rfl]
  have clock : u.clock = s.clock := by rw [set]; rfl
  have slots (i : SlotId) : u.slot i = s.slot i := by rw [set]; rfl
  have record : (recomputeBand k u).classRecord k = bandedClass k u := by
    rw [recomputeBand_classRecord, if_pos rfl]
  have banded : bandedClass k u =
      { x with inBand := inBandAt x.bandStart x.bandEnd (minuteOfDay s.clock.reading) } := by
    rw [bandedClass, bandNow, written, clock]
  have others (j : ClassId) (other : j ≠ k) : (recomputeBand k u).classRecord j = s.classRecord j := by
    rw [recomputeBand_other other.symm, set, classRecord_withClass, if_neg other.symm]
  have flag : (u.classRecord k).inBand = (s.classRecord k).inBand := (congrArg _ written).trans inBand
  refine ⟨bandsAlone_of_rebands ?_ moves ?_, moves.clock.trans clock, ?_, record.trans banded, others⟩
  · rw [set]
    rfl
  · rw [filterMap_alone (List.nodup_finRange 8) (List.mem_finRange k) fun j other => ?_, ← flag]
    · exact congrArg Option.toList (flagEvent_eq (congrArg ClassRecord.inBand record) moves.clock).symm
    · exact if_pos (congrArg ClassRecord.inBand (others j other)).symm
  · have readmits (i : SlotId) : (s.slot i).Readmits ((recomputeBand k u).slot i) := by
      rw [← slots i]
      exact moves.slot i
    refine classSwept_of_banded readmits flag (congrArg ClassRecord.privacy record).symm fun i cls => ?_
    rw [record, ← slots i]
    exact recomputeBand_banded k u i

/-! ### The commands -/

theorem exec_minuteBoundary : ∀ s : State, exec .minuteBoundary s = whileRunning minuteBoundary s := by
  intros
  rfl

theorem exec_setTime : ∀ (body : List Byte) (s : State),
    exec (.setTime body) s = whileRunning (request 0x02 5 setTime body) s := by
  intros
  rfl

theorem exec_loadClass : ∀ (body : List Byte) (s : State),
    exec (.loadClass body) s = whileRunning (request 0x24 6 loadClass body) s := by
  intros
  rfl

variable {body : List Byte}

/-- The clock set to the reading of a SET-TIME (R168). -/
def clockSet (body : List Byte) (s : State) : State :=
  { s with clock := { s.clock with reading :=
    { day := field16 body 0, hour := byteAt body 2, minute := byteAt body 3, second := byteAt body 4, frame := 0 } } }

theorem setTime_legal (hour : byteAt body 2 ≤ 23) (minute : byteAt body 3 ≤ 59) (second : byteAt body 4 ≤ 59) (s : State) :
    setTime body s = ok (recomputeBands (clockSet body s)) :=
  if_neg (by omega)

theorem setTime_illegal (illegal : 23 < byteAt body 2 ∨ 59 < byteAt body 3 ∨ 59 < byteAt body 4) (s : State) :
    setTime body s = refusedWith .badArgument s := if_pos illegal

theorem clockSet_eq (body : List Byte) (s : State) : clockSet body s = { s with clock := (clockSet body s).clock } := rfl

theorem clockSet_portBlind (body : List Byte) : PortBlind (clockSet body) := fun _ _ => rfl

/-- The class record of a LOAD-CLASS, before its flag is recomputed (R57). -/
def loadedClass (body : List Byte) (x : ClassRecord) : ClassRecord :=
  { x with
    privacy := byteAt body 1 == 1, bandStart := min (field16 body 2) 1439, bandEnd := min (field16 body 4) 1439 }

/-- Class `k` written by a LOAD-CLASS (R57). -/
def classLoaded (k : ClassId) (body : List Byte) (s : State) : State :=
  s.withClass k (loadedClass body (s.classRecord k))

theorem loadClass_legal (index : byteAt body 0 = k.val) (flag : byteAt body 1 ≤ 1) (s : State) :
    loadClass body s = ok (recomputeBand k (classLoaded k body s)) := by
  rw [loadClass, indexOf_of_eq_val index]
  dsimp only
  rw [if_neg flag.not_gt]
  rfl

theorem loadClass_illegal (illegal : 7 < byteAt body 0 ∨ 1 < byteAt body 1) (s : State) :
    loadClass body s = refusedWith .badArgument s := by
  unfold loadClass
  split
  · rfl
  next k index =>
    have low : ¬7 < byteAt body 0 := fun high => by simp [indexOf_eq_none_of_le (size := 8) high] at index
    exact if_pos (illegal.resolve_left low)

theorem classLoaded_portBlind (k : ClassId) (body : List Byte) : PortBlind (classLoaded k body) := fun _ _ => rfl

theorem exec_setTime_legal (accepts : Accepts s) (length : body.length = 5) (hour : byteAt body 2 ≤ 23)
    (minute : byteAt body 3 ≤ 59) (second : byteAt body 4 ≤ 59) :
    exec (.setTime body) s = .next (answered 0x02 .ok [] (recomputeBands (clockSet body s))) := by
  have blind : PortBlind fun v => recomputeBands (clockSet body v) :=
    (clockSet_portBlind body).comp recomputeBands_portBlind
  rw [exec_setTime]
  exact whileRunning_request_blind (f := fun v => recomputeBands (clockSet body v)) accepts length blind
    (setTime_legal hour minute second (huntPort s))

theorem exec_loadClass_legal (accepts : Accepts s) (length : body.length = 6) (index : byteAt body 0 = k.val)
    (flag : byteAt body 1 ≤ 1) :
    exec (.loadClass body) s = .next (answered 0x24 .ok [] (recomputeBand k (classLoaded k body s))) := by
  have blind : PortBlind fun v => recomputeBand k (classLoaded k body v) :=
    (classLoaded_portBlind k body).comp (recomputeBand_portBlind k)
  rw [exec_loadClass]
  exact whileRunning_request_blind (f := fun v => recomputeBand k (classLoaded k body v)) accepts length blind
    (loadClass_legal index flag (huntPort s))

end

/-- Settles O35: a recomputation of all classes after a change of the clock, or of the class just written. -/
theorem bandsAreRecomputed : Obligations.BandsAreRecomputed := by
  refine ⟨fun s running due => ?_, fun body s accepts length => ⟨fun hour minute second => ?_, fun illegal => ?_⟩,
    fun body s accepts length => ⟨fun k index flag => ?_, fun illegal => ?_⟩⟩
  · obtain ⟨moves, clock, classes⟩ := recomputeBands_alone (s := s)
      (u := { s with clock := { s.clock with minuteDue := false } }) rfl
    refine ⟨_, ?_, moves, clock, classes⟩
    rw [exec_minuteBoundary, whileRunning_running running, minuteBoundary, if_pos due]
  · obtain ⟨moves, clock, classes⟩ := recomputeBands_alone (s := s) (clockSet_eq body s)
    exact ⟨_, exec_setTime_legal accepts length hour minute second, moves, clock, classes⟩
  · rw [exec_setTime]
    exact whileRunning_request_refused accepts length (setTime_illegal illegal _)
  · obtain ⟨moves, clock, sweeps, record, others⟩ := recomputeBand_alone (s := s) (k := k) (u := classLoaded k body s)
      (x := loadedClass body (s.classRecord k)) rfl rfl
    exact ⟨_, exec_loadClass_legal accepts length index flag, moves, clock, sweeps, record, others⟩
  · rw [exec_loadClass]
    exact whileRunning_request_refused accepts length (loadClass_illegal illegal _)

end Sys2Proof.Machine
end
